-- ==== Sys2Proof/Word.lean ====
section
/-! DEFINITION. The words of the EB-420: bytes of a CAN frame or of the configuration image, the two-byte
quantity, and the sets of eight field lines. Quantities (litres, pulses, milliseconds, milligrams) are natural
numbers: section 1.8 of the manual gives all arithmetic on non-negative integers, with a stated largest value. -/

namespace Sys2Proof

/-- One byte of a frame, of a tanker tag or of the configuration image. -/
abbrev Byte := BitVec 8

/-- A two-byte quantity; also the register of the CRC of R2. -/
abbrev Word := BitVec 16

/-- Eight field lines of one kind: bit `i - 1` belongs to compartment `i` (1 to 8). -/
abbrev Lines8 := BitVec 8

end Sys2Proof
end

