-- ==== Sys2Proof/Config.lean ====
section
/-! DEFINITION. What is fixed for the module (its durations and largest values, each with the rule that gives it)
and the free values: what the manual leaves open. A free value is a constant with no body: no proof can see what it
is. -/

namespace Sys2Proof.Config

/-! ## Largest values -/

/-- The largest count of a 32-bit quantity: tallies (R35), meter counts (R61), product metered (R27),
accumulations (R116), residue masses (R119). -/
def max32 : Nat := 4294967295
/-- Clock and pass age saturate here, in seconds (R34, R88). -/
def maxSeconds : Nat := 65535
/-- Notices the event FIFO holds (R174). -/
def fifoSize : Nat := 12
/-- Largest capacity taken from a SUPPLY, L/min (R155). -/
def maxCapacity : Nat := 4000
/-- Largest hot demand of a peer entry, L/min (R157). -/
def maxHotDemand : Nat := 1600
/-- Largest effluent demand of a peer entry, L/min (R157). -/
def maxEffDemand : Nat := 600
/-- Largest overrun estimate, pulses (R148). -/
def maxEstimate : Nat := 250

/-! ## Durations, in ms -/

/-- The append window, 30 s (R52). -/
def appendWindow : Nat := 30000
/-- The assembly deadline, 2 s (R22). -/
def assemblyDeadline : Nat := 2000
/-- The REFUSED lamp's timer, 2 s (R41). -/
def refusedLamp : Nat := 2000
/-- The flush time, 2 s (R64). -/
def flushTime : Nat := 2000
/-- The longest run-down, 5 s (R83). -/
def runDownLimit : Nat := 5000
/-- Low spray temperature that raises TEMP_LOW, 60 s (R71). -/
def tempLowLimit : Nat := 60000
/-- The longest drain-down, 120 s (R101). -/
def drainDownLimit : Nat := 120000
/-- The interval of the drain-down's account, 250 ms (R101). -/
def drainDownInterval : Nat := 250
/-- Intervals without a pulse that end the drain-down (R101). -/
def quietIntervals : Nat := 12
/-- The sample period of the DIU and of the sump level, 250 ms (R109, R167). -/
def samplePeriod : Nat := 250
/-- The stall time of a fill, 10 s (R144). -/
def stallTime : Nat := 10000
/-- The quiet time that ends RUN_ON, 2 s (R144). -/
def runOnTime : Nat := 2000
/-- The staleness timer of the supply record, 3 s (R155). -/
def staleTime : Nat := 3000
/-- The silence timer of a peer entry, 3 s (R157). -/
def silenceTime : Nat := 3000
/-- The DEMAND refresh timer, 1 s (R161). -/
def demandRefresh : Nat := 1000
/-- The steady timer, 120 s (R160). -/
def steadyTime : Nat := 120000
/-- The BAY_STATUS refresh timer, 10 s (R175). -/
def statusRefresh : Nat := 10000
/-- The debounce time of a field line, 20 ms (R182). -/
def debounce : Nat := 20

/-! ## Loop currents, in nA (the unit is the model's, log 6) -/

/-- 4 mA. -/
def fourMilliamp : Nat := 4000000
/-- 16 mA, the span of a loop. -/
def spanCurrent : Nat := 16000000
/-- 20 mA. -/
def twentyMilliamp : Nat := 20000000
/-- 3.6 mA, the presence threshold (R112). -/
def presenceCurrent : Nat := 3600000

/-! ## Free values -/

/-- FREE VALUE (log 15). Whether, where two findings of one event may be taken in either order (R90, R92), the
second named is taken first. Applied to the counter `State.free`. -/
opaque takeSecondFirst : Nat → Bool

/-- FREE VALUE (log 3). Which of several events that the module's own clock has made due at one instant is taken
first: an index, used modulo their number. Applied to the counter `State.free`. -/
opaque dueChoice : Nat → Nat

/-- FREE VALUE (log 9). The image check value when the configuration memory answers with fewer bytes than the image
has: R2 names the computed CRC and does not say over what. Applied to the bytes it answered. -/
opaque shortImageCheck : List Byte → Word

/-- FREE VALUE (log 10). The capacity, in litres, that scales the sump level input of a bay whose image is bad: R15
has the level sampled and reported, and a bad image gives no capacity. -/
opaque capacityWithoutImage : Nat

end Sys2Proof.Config
end

