-- ==== Sys2Proof/Syntax.lean ====
section
/-! DEFINITION. The commands of the EB-420: one constructor of `Instr` for each row of spec/opcode_table.json, with
what the event brings with it (R41: the selection; R172: the frame received; R109, R167: the loop currents; R1, R182:
what the start-up reads). -/

namespace Sys2Proof

/-- The three loops the DIU conditions (section 6.1). -/
inductive Channel where
  | conductivity | turbidity | temperature
deriving DecidableEq, Repr

/-! ## The configuration image, as decoded from its layout (sections 1.2 to 1.6)

The byte layout lies outside the manual. A code that names none of its field's values is `none`. -/

/-- How the share unit divides a utility (section 1.2). -/
inductive AllocMode where
  | ordered | proportional
deriving DecidableEq, Repr

/-- The group of a cargo class (section 1.3). -/
inductive Group where
  | food | general
deriving DecidableEq, Repr

/-- The kind of a stage (section 1.4.2). -/
inductive StageKind where
  | preRinse | wash | rinse | finalRinse | dry
deriving DecidableEq, Repr

/-- The channels a stage inspects (section 1.4.2). -/
inductive Inspection where
  | none | cond | turb | both
deriving DecidableEq, Repr

/-- The yard parameters as they stand in the image: capacity in litres, marks in percent, rate in L/min (R3). -/
structure RawYard where
  mode : Option AllocMode
  capacity : Nat
  highMark : Nat
  resumeMark : Nat
  startMark : Nat
  stopMark : Nat
  maxRate : Nat
deriving DecidableEq, Repr

/-- One entry of the class table as it stands in the image (R4, R5). -/
structure RawClass where
  enabled : Bool
  group : Option Group
  sigLow : Nat
  sigHigh : Nat
deriving DecidableEq, Repr

/-- One stage record as it stands in the image (R7, R9). -/
structure RawStage where
  kind : Option StageKind
  temperature : Nat
  volume : Nat
  flow : Nat
  timeLimit : Nat
  dose : Nat
  inspection : Option Inspection
  repeatLimit : Nat
  windowMax : Nat
deriving DecidableEq, Repr

/-- The inspection parameters of one channel of a recipe (section 1.4.3, R8). -/
structure ChannelParams where
  k : Nat
  clear : Nat
  dirty : Nat
  limit : Nat
deriving DecidableEq, Repr

/-- One recipe as it stands in the image (section 1.4.1). -/
structure RawRecipe where
  enabled : Bool
  stages : List RawStage
  tolerance : Nat
  holdLimit : Nat
  starveLimit : Nat
  c : ChannelParams
  t : ChannelParams
deriving DecidableEq, Repr

/-- The decoded image: classes 1 to 15, recipes 1 to 31, and the 225 map entries, the entry for last class L and
next class N at place (L - 1) * 15 + (N - 1) of the list (log 29). -/
structure RawImage where
  yard : RawYard
  classes : List RawClass
  recipes : List RawRecipe
  map : List Nat
deriving DecidableEq, Repr

/-- The configuration memory's answer to the read (R2): none, fewer bytes than the image has, or the image: its
bytes without the stored check value, the stored check value, and the fields decoded from the bytes. -/
inductive ConfigMemory where
  | silent
  | short (bytes : List Byte)
  | whole (bytes : List Byte) (stored : Word) (fields : RawImage)
deriving DecidableEq, Repr

/-- The levels of the field lines (section 11.1). -/
structure Lines where
  select : Lines8
  buttons : BitVec 7
  key : Bool
  head : Lines8
  probe : Lines8
  arm : Lines8
  pumpStopped : Bool
deriving DecidableEq, Repr

/-- What the module finds at its start: the memory's answer, the four node straps (R1), the level of every field
line (R182) and the four loop currents in nA. -/
structure StartUpRead where
  memory : ConfigMemory
  straps : BitVec 4
  lines : Lines
  loopC : Nat
  loopT : Nat
  loopTemp : Nat
  loopSump : Nat
deriving DecidableEq, Repr

/-- A frame as the CAN controller hands it up (R171, R172). -/
structure Frame where
  /-- the frame has a 29-bit identifier -/
  extended : Bool
  remote : Bool
  ident : BitVec 11
  data : List Byte
deriving DecidableEq, Repr

/-- The commands, in the order of spec/opcode_table.json. -/
inductive Instr where
  | resetLineHeld
  | resetLineRelease
  | endOfStartUp (r : StartUpRead)
  | start (switches : Lines8)
  | add (switches : Lines8)
  | hold
  | resume
  | abandon (switches : Lines8)
  | fill (switches : Lines8)
  | clearFault
  | keyOff
  | keyOn
  | headSeatedDrop (compartment : Nat)
  | highLevelProbeWet (compartment : Nat)
  | fillArmDrop (compartment : Nat)
  | pumpStoppedOn
  | runDownTimeout
  | supplyPulse
  | sprayVolumeReached
  | agentPulse
  | agentAllowanceReached
  | drainPulse
  | productPulse
  | fullFlowClosePoint
  | trimClosePoint
  | fillStalled
  | runOnEnd
  | diuSample (loopC loopT loopTemp : Nat)
  | channelAbsent (ch : Channel)
  | channelPresent (ch : Channel)
  | baselineFormed (ch : Channel)
  | flushTimeExpiry
  | stageTime
  | tempLow
  | drainWindowEnd (compartment : Nat)
  | dryTimeExpiry
  | holdTimerExpiry
  | starvationTimerExpiry
  | drainDownQuiet
  | drainDownTimeout
  | appendWindowExpiry
  | jobPostHeader (f : Frame)
  | jobPostCompartment (f : Frame)
  | assemblyDeadlineExpiry
  | jobRelease (f : Frame)
  | reportRecall (f : Frame)
  | refusedLampExpiry
  | supply (f : Frame)
  | supplyStale
  | demand (f : Frame)
  | peerSilenceExpiry (node : Nat)
  | bayRestarted (f : Frame)
  | bayStatus (f : Frame)
  | demandRefreshExpiry
  | steadyTimerExpiry
  | sumpSample (loopSump : Nat)
  | transmitComplete
  | bayStatusRefreshExpiry
  | busOff
  | busRecovery
deriving DecidableEq, Repr

end Sys2Proof
end

