-- ==== Sys2Proof/WellFormed.lean ====
section
/-! DEFINITION. Which commands name an event that can reach the module: a compartment's line is one of eight, a node
is 1 to 15, a frame bears its row's kind and at most 8 data bytes, a decoded image has its fixed number of entries,
the baseline is formed for conductivity and turbidity alone. -/

namespace Sys2Proof

/-- The notice kind of an 11-bit identifier: bits 10 to 7 (R171). -/
def Frame.kind (f : Frame) : Nat := (f.ident.extractLsb' 7 4).toNat

/-- A compartment index names a field line (section 11.1: one line per compartment, 1 to 8). -/
def wfCompartment (i : Nat) : Bool := decide (1 ≤ i) && decide (i ≤ 8)

/-- A frame of the row's kind with at most 8 data bytes (chapter 10). -/
def wfFrame (kind : Nat) (f : Frame) : Bool := f.kind == kind && decide (f.data.length ≤ 8)

/-- A decoded image has 15 class entries, 31 recipes and 225 map entries (R4, R6, R13). -/
def wfImage (m : RawImage) : Bool :=
  m.classes.length == 15 && m.recipes.length == 31 && m.map.length == 225

/-- The decoded fields of a whole image have their fixed shape. -/
def wfMemory : ConfigMemory → Bool
  | .silent => true
  | .short _ => true
  | .whole _ _ fields => wfImage fields

/-- Well-formedness of a command. -/
def Instr.wf : Instr → Bool
  | .resetLineHeld => true
  | .resetLineRelease => true
  | .endOfStartUp r => wfMemory r.memory
  | .start _ => true
  | .add _ => true
  | .hold => true
  | .resume => true
  | .abandon _ => true
  | .fill _ => true
  | .clearFault => true
  | .keyOff => true
  | .keyOn => true
  | .headSeatedDrop i => wfCompartment i
  | .highLevelProbeWet i => wfCompartment i
  | .fillArmDrop i => wfCompartment i
  | .pumpStoppedOn => true
  | .runDownTimeout => true
  | .supplyPulse => true
  | .sprayVolumeReached => true
  | .agentPulse => true
  | .agentAllowanceReached => true
  | .drainPulse => true
  | .productPulse => true
  | .fullFlowClosePoint => true
  | .trimClosePoint => true
  | .fillStalled => true
  | .runOnEnd => true
  | .diuSample _ _ _ => true
  | .channelAbsent _ => true
  | .channelPresent _ => true
  | .baselineFormed ch => decide (ch ≠ .temperature)
  | .flushTimeExpiry => true
  | .stageTime => true
  | .tempLow => true
  | .drainWindowEnd i => wfCompartment i
  | .dryTimeExpiry => true
  | .holdTimerExpiry => true
  | .starvationTimerExpiry => true
  | .drainDownQuiet => true
  | .drainDownTimeout => true
  | .appendWindowExpiry => true
  | .jobPostHeader f => wfFrame 3 f
  | .jobPostCompartment f => wfFrame 4 f
  | .assemblyDeadlineExpiry => true
  | .jobRelease f => wfFrame 2 f
  | .reportRecall f => wfFrame 5 f
  | .refusedLampExpiry => true
  | .supply f => wfFrame 0 f
  | .supplyStale => true
  | .demand f => wfFrame 1 f
  | .peerSilenceExpiry n => decide (1 ≤ n) && decide (n ≤ 15)
  | .bayRestarted f => wfFrame 13 f
  | .bayStatus f => wfFrame 12 f
  | .demandRefreshExpiry => true
  | .steadyTimerExpiry => true
  | .sumpSample _ => true
  | .transmitComplete => true
  | .bayStatusRefreshExpiry => true
  | .busOff => true
  | .busRecovery => true

end Sys2Proof
end

