-- ==== Sys2Proof/Decode.lean ====
section
/-! DEFINITION. The block has no instruction encoding: spec/opcode_table.json gives no row any bits (each row's
fields are empty), so no word spells a command. -/

namespace Sys2Proof

/-- The command that a word spells by the table's bits. No row of the table gives bits, so no word spells one. -/
def decodeTableWord (_nbits _w : Nat) : Option Instr := none

end Sys2Proof
end

