-- ==== Sys2Proof/Machine/State.lean ====
section
/-! DEFINITION. The state of the EB-420 as plain data: one structure per block of section 1.4, the outputs, the
module's power condition and the queue of waiting commands; and the state after reset. INVENTORY.md lists every piece
with its rule. Timers hold the milliseconds left (`none`: stopped). -/

namespace Sys2Proof.Machine

/-- The manual describes no event at which the module stops: there is no fault of a step. (What the manual calls a
fault is an entry of the fault record, R179, and the module goes on.) -/
inductive Fault where
deriving DecidableEq, Repr

/-- The refusals of a step. -/
inductive Refusal where
  /-- raised by `exec` alone, for a command that has no meaning yet; safe. No arm raises it. -/
  | notModelled (mnemonic : String)
deriving DecidableEq, Repr

/-! ## The module and the configuration reader -/

/-- The power condition of the module (R185): reset line held (or supply low), configuration read under way, or in
operation from the end of start-up. -/
inductive Power where
  | held | reading | running
deriving DecidableEq, Repr

/-- The out-of-service mark (R14). -/
inductive OosMark where
  | inService | badImage | nodeZero | badImageNodeZero
deriving DecidableEq, Repr

/-- The yard parameters in use: marks in litres (R3). -/
structure Yard where
  mode : AllocMode
  capacity : Nat
  highMark : Nat
  resumeMark : Nat
  startMark : Nat
  stopMark : Nat
  maxRate : Nat
deriving DecidableEq, Repr

/-- A class table entry as read (R4, R5). -/
structure ClassEntry where
  enabled : Bool
  group : Group
  sigLow : Nat
  sigHigh : Nat
deriving DecidableEq, Repr

/-- A stage of a recipe in use (R7). -/
structure Stage where
  kind : StageKind
  temperature : Nat
  volume : Nat
  flow : Nat
  timeLimit : Nat
  dose : Nat
  inspection : Inspection
  repeatLimit : Nat
  windowMax : Nat
deriving DecidableEq, Repr

/-- A recipe in use (R6). -/
structure Recipe where
  stages : List Stage
  tolerance : Nat
  holdLimit : Nat
  starveLimit : Nat
  c : ChannelParams
  t : ChannelParams
deriving DecidableEq, Repr

/-- The tables held from start to start (R1): classes 1 to 15, recipes 1 to 31 (`none`: not enabled or disabled by
check, R11), the 225 map entries (R13). -/
structure Tables where
  yard : Yard
  classes : List ClassEntry
  recipes : List (Option Recipe)
  map : List Nat
deriving DecidableEq, Repr

/-- The configuration reader. -/
structure Reader where
  memory : ConfigMemory
  node : BitVec 4
  mark : OosMark
  check : Word
  disabled : List Nat
  tables : Option Tables
deriving DecidableEq, Repr

/-! ## The job unit -/

/-- Grades of a certificate: A best (R78). -/
inductive Grade where
  | a | b | c
deriving DecidableEq, Repr

/-- Compartment states (section 2.5). -/
inductive CState where
  | unknown | soiled | barred | scheduled | washing | clean | filling | partFilled | filled | rejected
deriving DecidableEq, Repr

/-- The admitted-by-key mark with its reason (R29, R50). -/
inductive KeyMark where
  | none | keyed | rejected
deriving DecidableEq, Repr

/-- End causes of a fill (R139). -/
inductive FillCause where
  | target | abandoned | fillProbe | fillStalled | keyRemoved | armRemoved | released
deriving DecidableEq, Repr

/-- A certificate (R28). -/
structure Certificate where
  passNumber : Nat
  recipe : Nat
  fitFor : Nat
  grade : Grade
  residueC : Option Nat
  residueT : Option Nat
  repeatsUsed : Nat
  filteredFaults : Nat
  commitTime : Nat
deriving DecidableEq, Repr

/-- A fill record (R153). -/
structure FillRecord where
  compartment : Nat
  target : Nat
  metered : Nat
  runOn : Nat
  cause : FillCause
  result : CState
deriving DecidableEq, Repr

/-- A compartment record (R27). -/
structure Compartment where
  index : Nat
  volume : Nat
  lastClass : Nat
  nextClass : Nat
  recipe : Option Nat
  keyed : Bool
  fillTarget : Nat
  state : CState
  attempts : Nat
  keyMark : KeyMark
  certificate : Option Certificate
  metered : Nat
  fillRecord : Option FillRecord
deriving DecidableEq, Repr

/-- Job states (section 2.1). -/
inductive JobState where
  | noJob | assembling | opened | releasing | closed
deriving DecidableEq, Repr

/-- The job record (R18). -/
structure JobRecord where
  tag : List Byte
  count : Nat
  minGrade : Grade
  tolerance : Nat
  verify : Bool
  detect : Word
  number : Nat
deriving DecidableEq, Repr

/-- The content of one compartment frame, as sent (section 2.2). -/
structure Slot where
  volume : Nat
  lastClass : Nat
  nextClass : Nat
  keyed : Bool
  fillTarget : Nat
deriving DecidableEq, Repr

/-- The values read from a header (R20). -/
structure Header where
  tag : List Byte
  count : Nat
  minGrade : Grade
  tolerance : Nat
  verify : Bool
  detect : Word
deriving DecidableEq, Repr

/-- The assembly record (section 2.2): the header, one slot per index, whether the prior state is CLOSED (else
NO_JOB), and the assembly deadline. -/
structure Assembly where
  header : Header
  slots : List (Option Slot)
  priorClosed : Bool
  deadline : Nat
deriving DecidableEq, Repr

/-- The job unit (R18). -/
structure JobUnit where
  state : JobState
  record : Option JobRecord
  table : List Compartment
  assembly : Option Assembly
  supplyTally : Nat
  agentTally : Nat
  effluentTally : Nat
  productTally : Nat
  clock : Nat
  clockSub : Nat
  passCounter : Nat
  lastNumber : Nat
deriving DecidableEq, Repr

/-! ## The pass engine -/

/-- Phases of the pass engine (section 4.1). -/
inductive Phase where
  | none | gathering | flush | spray | drain | dry | runDown | held | starved | drainDown
deriving DecidableEq, Repr

/-- Retirement and abort codes (R93), in the order of their numbers 1 to 14. -/
inductive Code where
  | abandoned | headUnseated | overflow | tempLow | stageTime | sensorAbsent | drainSlow | classMismatch
  | residuePersists | supplyLost | holdTooLong | keyRemoved | jobReleased | classUnresolved
deriving DecidableEq, Repr

/-- Where a run-down leads (R61). -/
inductive Dest where
  | held | starved | drain | drainDown
deriving DecidableEq, Repr

/-- Where a held pass goes on (R61). -/
inductive ResumePoint where
  | flush | spray | drain | dry | next
deriving DecidableEq, Repr

/-- The next step decided at the end of a stage run, or at formation into HELD (R62, R85). -/
inductive NextStep where
  | firstStage | again | following
deriving DecidableEq, Repr

/-- A batch entry (R42). -/
structure BatchMember where
  index : Nat
  prior : CState
deriving DecidableEq, Repr

/-- A signature and whether it is usable (R132). -/
structure Signature where
  value : Nat
  usable : Bool
deriving DecidableEq, Repr

/-- A member of a formed pass (R60, R61, R95, R136). -/
structure Member where
  index : Nat
  ckState : CState
  ckClass : Nat
  passed : Bool
  retiring : Option Code
  own : Nat
  wetted : Bool
  verify : Bool
  signature : Option Signature
deriving DecidableEq, Repr

/-- The outcome of a member in the pass result (R106). -/
inductive MemberOutcome where
  | certified (g : Grade)
  | identified (cls : Nat)
  | retired (code : Code)
  | aborted
deriving DecidableEq, Repr

/-- A member entry of the pass result (R106). -/
structure MemberResult where
  index : Nat
  outcome : MemberOutcome
  own : Nat
deriving DecidableEq, Repr

/-- The spray record (R61): supply and agent pulses counted, running spray time and low-temperature time in ms, and
the TEMP_LOW-raised mark. -/
structure SprayRecord where
  supply : Nat
  agent : Nat
  timeMs : Nat
  lowMs : Nat
  tempRaised : Bool
deriving DecidableEq, Repr

/-- The account of a drain-down (R101). -/
structure DrainDown where
  left : Nat
  interval : Nat
  seen : Bool
  quiet : Nat
deriving DecidableEq, Repr

/-- A member that has left the pass at its retirement (R96), and the key mark its compartment had (R92, R131). -/
structure Left where
  member : Member
  mark : KeyMark
deriving DecidableEq, Repr

/-- What one ms holds together (R92, R131; log 34, 37). Of the faults that may still come in the ms of an abort or of
a retirement, beside the fault that it came from: the members whose head-seated line, or whose probe, was watched and
had not given its fault; the channels watched for presence; the time limit of the SPRAY reached; the low-temperature
time of a hot SPRAY whose TEMP_LOW was still to come. Of the members: those that have retired and left at once in this
ms, which an abort of the same ms finds retiring. MODEL'S OWN: the next ms empties it. -/
structure Late where
  heads : List Nat
  probes : List Nat
  sensor : Bool
  timeDue : Bool
  low : Option Nat
  left : List Left
deriving DecidableEq, Repr

/-- Nothing more may come, and no member has left. -/
def Late.none : Late where
  heads := []
  probes := []
  sensor := false
  timeDue := false
  low := Option.none
  left := []

/-- The pass context (R42, R60, R61). `late` is the model's own. -/
structure Pass where
  phase : Phase
  batch : List BatchMember
  batchRecipe : Option Nat
  probe : Bool
  window : Option Nat
  number : Nat
  recipe : Nat
  recipeData : Option Recipe
  tolerance : Nat
  members : List Member
  departed : List MemberResult
  stage : Nat
  repeats : Nat
  class2 : Nat
  class3 : Nat
  abortCode : Option Code
  pendingHold : Bool
  age : Nat
  ageSub : Nat
  resumeAt : Option ResumePoint
  nextStep : Option NextStep
  dest : Option Dest
  runDown : Option Nat
  fromSpray : Bool
  flushLeft : Nat
  spray : Option SprayRecord
  drainList : List Nat
  draining : Option Nat
  dryLeft : Nat
  skipped : Bool
  holdTimer : Option Nat
  starveTimer : Option Nat
  supplyMeter : Nat
  agentMeter : Nat
  drainMeter : Nat
  drainDown : Option DrainDown
  late : Late
deriving DecidableEq, Repr

/-- The engine in NONE: no batch, no pass (R42). -/
def Pass.idle : Pass where
  phase := .none
  batch := []
  batchRecipe := none
  probe := false
  window := none
  number := 0
  recipe := 0
  recipeData := none
  tolerance := 0
  members := []
  departed := []
  stage := 0
  repeats := 0
  class2 := 0
  class3 := 0
  abortCode := none
  pendingHold := false
  age := 0
  ageSub := 0
  resumeAt := none
  nextStep := none
  dest := none
  runDown := none
  fromSpray := false
  flushLeft := 0
  spray := none
  drainList := []
  draining := none
  dryLeft := 0
  skipped := false
  holdTimer := none
  starveTimer := none
  supplyMeter := 0
  agentMeter := 0
  drainMeter := 0
  drainDown := none
  late := Late.none

/-! ## The drain inspection unit -/

/-- The conditioning of one loop (R108). -/
structure Loop where
  gain : Nat
  present : Bool
  run : Nat
  reading : Nat
deriving DecidableEq, Repr

/-- The flush record of one channel (R113). -/
structure FlushRec where
  count : Nat
  sum : Nat
deriving DecidableEq, Repr

/-- What a window keeps of one inspected channel (R115). -/
structure ChannelWin where
  acc : Nat
  peak : Nat
  sat : Bool
deriving DecidableEq, Repr

/-- The window record (R115). `c`, `t`: the inspected channels; `pulses`: the drain pulses since the last sample;
`paramsC`, `paramsT`: the parameters of a channel, absent in an uninspected and in a probe window and for a channel
that the recipe does not inspect (R8). -/
structure Window where
  member : Nat
  inspected : Bool
  c : Option ChannelWin
  t : Option ChannelWin
  volume : Nat
  paramsC : Option ChannelParams
  paramsT : Option ChannelParams
  maxSamples : Nat
  sample : Nat
  firstPulse : Bool
  zeroRun : Nat
  drained : Nat
  pulses : Nat
deriving DecidableEq, Repr

/-- The residue histories of one member, oldest entry first (R125). -/
structure History where
  index : Nat
  c : List Nat
  t : List Nat
deriving DecidableEq, Repr

/-- The drain inspection unit (R108). -/
structure Diu where
  c : Loop
  t : Loop
  temp : Loop
  flushC : FlushRec
  flushT : FlushRec
  baseC : Option Nat
  baseT : Option Nat
  window : Option Window
  histories : List History
  clock : Nat
deriving DecidableEq, Repr

/-! ## The fill unit -/

/-- Phases of a fill; IDLE is the absence of a context (section 8.1). -/
inductive FillPhase where
  | fullFlow | trim | runOn
deriving DecidableEq, Repr

/-- The fill context (R139). -/
structure FillCtx where
  phase : FillPhase
  compartment : Nat
  full : Nat
  already : Nat
  remaining : Nat
  trim : Nat
  tolerance : Nat
  close : Nat
  count : Nat
  runOn : Nat
  cause : Option FillCause
  learn : Bool
  quietMs : Nat
deriving DecidableEq, Repr

/-- The fill unit (R139). -/
structure FillUnit where
  ctx : Option FillCtx
  estimate : Nat
deriving DecidableEq, Repr

/-! ## The share unit -/

/-- The plant's state (R155). -/
inductive Plant where
  | normal | reduced | shutdown
deriving DecidableEq, Repr

/-- The five fields of a DEMAND (R159). -/
structure Demand where
  hot : Nat
  eff : Nat
  priority : Nat
  steady : Bool
  age : Nat
deriving DecidableEq, Repr

/-- A peer table entry (R157). -/
structure Peer where
  node : Nat
  demand : Demand
  silence : Nat
deriving DecidableEq, Repr

/-- The share unit (R154). The supply record is FRESH while the staleness timer `stale` runs. -/
structure Share where
  hotCap : Nat
  effCap : Nat
  plant : Plant
  stale : Option Nat
  peers : List Peer
  own : Demand
  announced : Demand
  refresh : Option Nat
  steady : Option Nat
  steadyFlag : Bool
  hotReported : Nat
  hotShare : Nat
  effShare : Nat
  level : Nat
  pumpOut : Bool
  starved : Bool
  lockout : Bool
  sumpClock : Nat
deriving DecidableEq, Repr

/-! ## Faults, notices and the yard line -/

/-- The faults of the fault record (section 10.5). -/
inductive FaultKind where
  | headUnseated | overflow | tempLow | stageTime | sensorAbsent | drainSlow | classMismatch
  | fillProbe | fillStalled | supplyStale | duplicateNode | busOff
deriving DecidableEq, Repr

/-- The source blocks of the fault record (section 10.5). -/
inductive SourceBlock where
  | pass | fill | share | line
deriving DecidableEq, Repr

/-- The first-fault record (R179). -/
structure FaultRec where
  kind : FaultKind
  source : SourceBlock
  compartment : Option Nat
  stage : Option Nat
  time : Nat
deriving DecidableEq, Repr

/-- The fault record (R179). -/
structure Faults where
  record : Option FaultRec
  overflow : Bool
deriving DecidableEq, Repr

/-- Reasons of a refused job (R26). -/
inductive JobRefusal where
  | badCount | badVolume | incomplete | superseded | busy | outOfService
deriving DecidableEq, Repr

/-- Outcomes of a JOB_RESPONSE (R26). -/
inductive JobOutcome where
  | accepted | refused (reason : JobRefusal) | noJob
deriving DecidableEq, Repr

/-- A JOB_RESPONSE (R26). -/
structure JobResponse where
  tag : List Byte
  outcome : JobOutcome
  number : Nat
  detail : List Nat
deriving DecidableEq, Repr

/-- The outcome of a pass (R106). -/
inductive PassOutcome where
  | complete | aborted (code : Code) | allRetired
deriving DecidableEq, Repr

/-- A PASS_RESULT (R106). -/
structure PassResult where
  tag : List Byte
  jobNumber : Nat
  number : Nat
  recipe : Nat
  outcome : PassOutcome
  stage : Nat
  repeats : Nat
  members : List MemberResult
  supply : Nat
  agent : Nat
  effluent : Nat
  class2 : Nat
  class3 : Nat
deriving DecidableEq, Repr

/-- Close causes of a JOB_REPORT (R40). -/
inductive CloseCause where
  | complete | released | snapshot
deriving DecidableEq, Repr

/-- An event notice as it stands in the event FIFO (R174). -/
inductive Notice where
  | bayRestarted (node : Nat) (mark : OosMark) (check : Word) (disabled : List Nat) (number : Nat)
  | jobResponse (r : JobResponse)
  | fault (f : FaultRec)
  | passResult (r : PassResult)
  | certificate (tag : List Byte) (jobNumber compartment : Nat) (cert : Certificate) (group : Group)
  | fillRecord (tag : List Byte) (jobNumber : Nat) (r : FillRecord)
  | jobReport (jobNumber : Nat) (cause : CloseCause)
deriving DecidableEq, Repr

/-- A compartment entry of a JOB_REPORT (R40). -/
structure ReportEntry where
  index : Nat
  state : CState
  lastClass : Nat
  nextClass : Nat
  recipe : Option Nat
  keyed : Bool
  attempts : Nat
  fillTarget : Nat
  certificate : Option (Grade × Nat)
  metered : Nat
  lastCause : Option FillCause
deriving DecidableEq, Repr

/-- The fields of a JOB_REPORT sent with table present yes, beside those every report carries (R40). -/
structure ReportBody where
  jobState : JobState
  gap : Bool
  clock : Nat
  passCounter : Nat
  supplyTally : Nat
  agentTally : Nat
  effluentTally : Nat
  productTally : Nat
  count : Nat
  entries : List ReportEntry
deriving DecidableEq, Repr

/-- A JOB_REPORT as composed (R40): `body` is present exactly when the table is. -/
structure Report where
  tag : List Byte
  jobNumber : Nat
  cause : CloseCause
  body : Option ReportBody
deriving DecidableEq, Repr

/-- Refusal reasons of the last-refusal field (R41, R43, R45, R47, R51, R52, R104, R141). -/
inductive Reason where
  | none | noJob | passActive | passLimit | noneSelected | batchFull | notSoiled | barred | keyedSkipped
  | headNotSeated | probeAlone | recipeDiffers | notGathering | selectOne | emptyBatch | nothingActive
  | fillBusy | notClean | notRequested | gradeLow | wrongClass | keyed | armNotSeated | probeWet
deriving DecidableEq, Repr

/-- A BAY_STATUS (R177); the fill phase is absent in IDLE, the stage kind without a formed pass. -/
structure BayStatus where
  node : Nat
  mark : OosMark
  jobState : JobState
  phase : Phase
  passNumber : Nat
  members : List (Nat × Bool)
  stage : Nat
  stageKind : Option StageKind
  repeats : Nat
  fillPhase : Option FillPhase
  fillCompartment : Option Nat
  hotShare : Nat
  effShare : Nat
  sumpPercent : Nat
  faultPresent : Bool
  faultOverflow : Bool
  gap : Bool
  lastRefusal : Reason
deriving DecidableEq, Repr

/-- The content of a notice going out, as composed (R174 to R176). -/
inductive Sent where
  | demand (d : Demand)
  | event (n : Notice)
  | report (r : Report)
  | status (b : BayStatus)
deriving DecidableEq, Repr

/-- A frame in the transmit buffer (R171, R176): its identifier, the notice it belongs to and its place in it. -/
structure TxFrame where
  ident : BitVec 11
  content : Sent
  number : Nat
deriving DecidableEq, Repr

/-- The notice in transmission, with the number of its next frame and of its frames (R171). -/
structure InTx where
  content : Sent
  next : Nat
  total : Nat
deriving DecidableEq, Repr

/-- Bus states (R171). -/
inductive Bus where
  | active | busOff
deriving DecidableEq, Repr

/-- The yard line interface (R171). `statusDue`: a refresh of BAY_STATUS asked for in the event under way (R41, R47,
R100, R180). -/
structure YardLine where
  bus : Bus
  fifo : List Notice
  gap : Bool
  demandBox : Option Demand
  statusBox : Option BayStatus
  statusTimer : Option Nat
  inTx : Option InTx
  tx : Option TxFrame
  statusDue : Bool
deriving DecidableEq, Repr

/-! ## The panel and field interface and the outputs -/

/-- A debounced line (section 11.1); the compartment of a line is 1 to 8, a button is 0 to 6 in the order START, ADD,
HOLD, RESUME, ABANDON, FILL, CLEAR_FAULT. -/
inductive Line where
  | select (i : Nat)
  | button (b : Nat)
  | key
  | head (i : Nat)
  | probe (i : Nat)
  | arm (i : Nat)
  | pumpStopped
deriving DecidableEq, Repr

/-- A raw line that differs from its debounced state, and for how many ms it has done so (R182). -/
structure Bounce where
  line : Line
  ms : Nat
deriving DecidableEq, Repr

/-- The panel and field interface (R41, R182). -/
structure Panel where
  refused : Option Nat
  lastRefusal : Reason
  level : Lines
  raw : Lines
  bounce : List Bounce
  loopC : Nat
  loopT : Nat
  loopTemp : Nat
  loopSump : Nat
deriving DecidableEq, Repr

/-- A lamp (R184): flashing is 0.5 s lit and 0.5 s out. -/
inductive Lamp where
  | out | lit | flashing
deriving DecidableEq, Repr

/-- The outputs (section 11.2). Setpoints in L/min and, as driven, in mV (R183). -/
structure Outputs where
  sprayPump : Bool
  heads : Lines8
  outlets : Lines8
  bypass : Bool
  agentPump : Bool
  blower : Bool
  spraySetpoint : Nat
  sprayMillivolt : Nat
  fillHigh : Bool
  fillLow : Bool
  pumpOut : Bool
  pumpRate : Nat
  pumpMillivolt : Nat
  ready : Lamp
  passLamp : Lamp
  holdLamp : Lamp
  fillLamp : Lamp
  refusedLamp : Lamp
  faultLamp : Lamp
deriving DecidableEq, Repr

/-- The rest state with every lamp out (R183, R185). -/
def Outputs.rest : Outputs where
  sprayPump := false
  heads := 0
  outlets := 0
  bypass := false
  agentPump := false
  blower := false
  spraySetpoint := 0
  sprayMillivolt := 0
  fillHigh := false
  fillLow := false
  pumpOut := false
  pumpRate := 0
  pumpMillivolt := 0
  ready := .out
  passLamp := .out
  holdLamp := .out
  fillLamp := .out
  refusedLamp := .out
  faultLamp := .out

/-! ## The whole state -/

/-- The state of one module. `free` is the model's own counter of free values used; `pending` the queue. -/
structure State where
  power : Power
  reader : Reader
  job : JobUnit
  pass : Pass
  diu : Diu
  fill : FillUnit
  share : Share
  line : YardLine
  faults : Faults
  panel : Panel
  outs : Outputs
  free : Nat
  pending : List Instr
deriving DecidableEq, Repr

/-! ## The state after reset -/

/-- The configuration reader before its read ends (log 8). -/
def Reader.reset : Reader where
  memory := .silent
  node := 0
  mark := .badImageNodeZero
  check := 0
  disabled := []
  tables := none

/-- The job unit after power-up (R18). -/
def JobUnit.reset : JobUnit where
  state := .noJob
  record := none
  table := []
  assembly := none
  supplyTally := 0
  agentTally := 0
  effluentTally := 0
  productTally := 0
  clock := 0
  clockSub := 0
  passCounter := 0
  lastNumber := 0

/-- A loop after power-up (R108). -/
def Loop.reset : Loop where
  gain := 1
  present := true
  run := 0
  reading := 0

/-- The DIU after power-up (R108; its clock, log 11). -/
def Diu.reset : Diu where
  c := Loop.reset
  t := Loop.reset
  temp := Loop.reset
  flushC := ⟨0, 0⟩
  flushT := ⟨0, 0⟩
  baseC := none
  baseT := none
  window := none
  histories := []
  clock := Config.samplePeriod

/-- The fill unit after power-up (R139). -/
def FillUnit.reset : FillUnit where
  ctx := none
  estimate := 20

/-- No demand. -/
def Demand.zero : Demand where
  hot := 0
  eff := 0
  priority := 0
  steady := false
  age := 0

/-- The share unit after power-up (R154; its sample clock, log 11). -/
def Share.reset : Share where
  hotCap := 0
  effCap := 0
  plant := .shutdown
  stale := none
  peers := []
  own := Demand.zero
  announced := Demand.zero
  refresh := none
  steady := none
  steadyFlag := false
  hotReported := 0
  hotShare := 0
  effShare := 0
  level := 0
  pumpOut := false
  starved := false
  lockout := false
  sumpClock := Config.samplePeriod

/-- The yard line interface after power-up (R171). -/
def YardLine.reset : YardLine where
  bus := .active
  fifo := []
  gap := false
  demandBox := none
  statusBox := none
  statusTimer := none
  inTx := none
  tx := none
  statusDue := false

/-- Every line off but pump-stopped (log 25). -/
def Lines.reset : Lines where
  select := 0
  buttons := 0
  key := false
  head := 0
  probe := 0
  arm := 0
  pumpStopped := true

/-- The panel and field interface after power-up (R41; its input pins, log 25). -/
def Panel.reset : Panel where
  refused := none
  lastRefusal := .none
  level := Lines.reset
  raw := Lines.reset
  bounce := []
  loopC := Config.fourMilliamp
  loopT := Config.fourMilliamp
  loopTemp := Config.fourMilliamp
  loopSump := Config.fourMilliamp

/-- The module right after power-up or release of the reset line: every block at the value its chapter gives, the
configuration read under way (R185, log 7). -/
def State.reset : State where
  power := .reading
  reader := Reader.reset
  job := JobUnit.reset
  pass := Pass.idle
  diu := Diu.reset
  fill := FillUnit.reset
  share := Share.reset
  line := YardLine.reset
  faults := ⟨none, false⟩
  panel := Panel.reset
  outs := Outputs.rest
  free := 0
  pending := []

/-! ## Updates of one block (Laws/State.lean says what each leaves alone) -/

/-- `s` with another power condition. -/
def State.setPower (s : State) (v : Power) : State := { s with power := v }
/-- `s` with another reader. -/
def State.setReader (s : State) (v : Reader) : State := { s with reader := v }
/-- `s` with another job unit. -/
def State.setJob (s : State) (v : JobUnit) : State := { s with job := v }
/-- `s` with another pass context. -/
def State.setPass (s : State) (v : Pass) : State := { s with pass := v }
/-- `s` with another DIU. -/
def State.setDiu (s : State) (v : Diu) : State := { s with diu := v }
/-- `s` with another fill unit. -/
def State.setFill (s : State) (v : FillUnit) : State := { s with fill := v }
/-- `s` with another share unit. -/
def State.setShare (s : State) (v : Share) : State := { s with share := v }
/-- `s` with another yard line interface. -/
def State.setLine (s : State) (v : YardLine) : State := { s with line := v }
/-- `s` with another fault record. -/
def State.setFaults (s : State) (v : Faults) : State := { s with faults := v }
/-- `s` with another panel and field interface. -/
def State.setPanel (s : State) (v : Panel) : State := { s with panel := v }
/-- `s` with other outputs. -/
def State.setOuts (s : State) (v : Outputs) : State := { s with outs := v }
/-- `s` with another count of free values used. -/
def State.setFree (s : State) (v : Nat) : State := { s with free := v }

end Sys2Proof.Machine
end

