-- ==== Sys2Proof/Machine/Ops.lean ====
section
/-! DEFINITION. The operations every block uses: saturating counts, the field lines, the event FIFO, the fault
record, refusals, the compartment table, the pass context's members and stage. -/

namespace Sys2Proof.Machine

/-! ## Counts -/

/-- `a + b`, stopping at `cap` (section 1.8: a saturating quantity stops at its largest value). -/
def satAdd (cap a b : Nat) : Nat := min cap (a + b)

/-! ## Field lines -/

/-- Line `i` (1 to 8) of a set of eight. -/
def lineOn (m : Lines8) (i : Nat) : Bool := decide (1 ≤ i) && m.getLsbD (i - 1)

/-- The set with line `i` alone; empty for an index that names no line. -/
def lineMask (i : Nat) : Lines8 := if 1 ≤ i ∧ i ≤ 8 then (1#8) <<< (i - 1) else 0

/-- The set of the lines listed. -/
def maskOf (l : List Nat) : Lines8 := l.foldl (fun m i => m ||| lineMask i) 0

/-- The eight lines with line `i` set to `b`. -/
def setLine8 (m : Lines8) (i : Nat) (b : Bool) : Lines8 :=
  if b then m ||| lineMask i else m &&& ~~~(lineMask i)

/-- The level of one line. -/
def Line.level (l : Line) (x : Lines) : Bool :=
  match l with
  | .select i => lineOn x.select i
  | .button b => x.buttons.getLsbD b
  | .key => x.key
  | .head i => lineOn x.head i
  | .probe i => lineOn x.probe i
  | .arm i => lineOn x.arm i
  | .pumpStopped => x.pumpStopped

/-- The lines with one of them set to `b`. -/
def Line.put (l : Line) (b : Bool) (x : Lines) : Lines :=
  match l with
  | .select i => { x with select := setLine8 x.select i b }
  | .button n =>
    let m : BitVec 7 := (1#7) <<< n
    { x with buttons := if b then x.buttons ||| m else x.buttons &&& ~~~m }
  | .key => { x with key := b }
  | .head i => { x with head := setLine8 x.head i b }
  | .probe i => { x with probe := setLine8 x.probe i b }
  | .arm i => { x with arm := setLine8 x.arm i b }
  | .pumpStopped => { x with pumpStopped := b }

/-- A line has taken a new debounced state: the raw line has held it (R182), so both take it. -/
def takeLine (l : Line) (b : Bool) (s : State) : State :=
  s.setPanel { s.panel with
    level := l.put b s.panel.level
    raw := l.put b s.panel.raw
    bounce := s.panel.bounce.filter (fun x => decide (x.line ≠ l)) }

/-- The key is on. -/
def keyIsOn (s : State) : Bool := s.panel.level.key
/-- The head-seated line of compartment `i` is on. -/
def headOn (s : State) (i : Nat) : Bool := lineOn s.panel.level.head i
/-- The high-level probe of compartment `i` is wet. -/
def probeWet (s : State) (i : Nat) : Bool := lineOn s.panel.level.probe i
/-- The fill-arm line of compartment `i` is on. -/
def armOn (s : State) (i : Nat) : Bool := lineOn s.panel.level.arm i

/-! ## The module -/

/-- The node number read from the straps (R1). -/
def nodeOf (s : State) : Nat := s.reader.node.toNat

/-- The bay is in service (R14). -/
abbrev inService (s : State) : Prop := s.power = .running ∧ s.reader.mark = .inService

/-! ## Notices and faults -/

/-- An event notice joins the FIFO's tail, or is discarded with the event gap set when the FIFO holds 12 (R174). -/
def queueEvent (n : Notice) (s : State) : State :=
  if s.line.fifo.length < Config.fifoSize then s.setLine { s.line with fifo := s.line.fifo ++ [n] }
  else s.setLine { s.line with gap := true }

/-- The notices join one at a time, in their order (R174). -/
def queueEvents (ns : List Notice) (s : State) : State := ns.foldl (fun s n => queueEvent n s) s

/-- The source block of each fault (section 10.5). -/
def FaultKind.source : FaultKind → SourceBlock
  | .headUnseated => .pass
  | .overflow => .pass
  | .tempLow => .pass
  | .stageTime => .pass
  | .sensorAbsent => .pass
  | .drainSlow => .pass
  | .classMismatch => .pass
  | .fillProbe => .fill
  | .fillStalled => .fill
  | .supplyStale => .share
  | .duplicateNode => .share
  | .busOff => .line

/-- The first-fault record a fault would fill: kind, source, compartment, stage index, job time (R179). -/
def faultRecOf (k : FaultKind) (comp stage : Option Nat) (s : State) : FaultRec where
  kind := k
  source := k.source
  compartment := comp
  stage := stage
  time := s.job.clock

/-- A fault is raised to the fault record (R179): an empty record is filled and a FAULT notice queued; a held record
keeps the first fault and the overflow flag is set. -/
def raiseFault (k : FaultKind) (comp stage : Option Nat) (s : State) : State :=
  match s.faults.record with
  | none => queueEvent (.fault (faultRecOf k comp stage s))
      (s.setFaults { s.faults with record := some (faultRecOf k comp stage s) })
  | some _ => s.setFaults { s.faults with overflow := true }

/-- A BAY_STATUS refresh is asked for in this event (R41, R47, R180). -/
def askStatus (s : State) : State := s.setLine { s.line with statusDue := true }

/-- A refusal (R41): REFUSED lit and its timer started afresh, the last-refusal field set, BAY_STATUS refreshed. -/
def refuse (r : Reason) (s : State) : State :=
  askStatus (s.setPanel { s.panel with refused := some Config.refusedLamp, lastRefusal := r })

/-- A KEYED skip (R47): the field is set and BAY_STATUS refreshed, the lamp is left alone. -/
def skipKeyed (s : State) : State :=
  askStatus (s.setPanel { s.panel with lastRefusal := .keyedSkipped })

/-! ## The compartment table -/

/-- A job is in service (R18). -/
def jobInService (s : State) : Bool :=
  match s.job.state with
  | .opened => true
  | .releasing => true
  | .closed => true
  | .noJob => false
  | .assembling => false

/-- The record of compartment `i`. -/
def compartment? (s : State) (i : Nat) : Option Compartment := s.job.table.find? (fun c => c.index == i)

/-- Change the record of compartment `i` (every change of a record goes through the job unit, section 2.4). -/
def updCompartment (i : Nat) (f : Compartment → Compartment) (s : State) : State :=
  s.setJob { s.job with table := s.job.table.map (fun c => if c.index = i then f c else c) }

/-- The volume of compartment `i`. -/
def volumeOf (s : State) (i : Nat) : Nat := ((compartment? s i).map (·.volume)).getD 0

/-- The tanker tag of the job held. -/
def jobTag (s : State) : List Byte := (s.job.record.map (·.tag)).getD []

/-- The number of the job held. -/
def jobNumber (s : State) : Nat := (s.job.record.map (·.number)).getD 0

/-- Five spaces, the tag of an answer that concerns no job (R26, R40). -/
def blankTag : List Byte := List.replicate 5 0x20#8

/-! ## Tables -/

/-- The probe recipe, recipe 0 (R12). It has no residue factors, levels or limits; the zeros here are never used. -/
def probeRecipe : Recipe where
  stages := [{ kind := .preRinse, temperature := 0, volume := 200, flow := 200, timeLimit := 120, dose := 0,
               inspection := .both, repeatLimit := 1, windowMax := 120 }]
  tolerance := 0
  holdLimit := 300
  starveLimit := 300
  c := ⟨0, 0, 0, 0⟩
  t := ⟨0, 0, 0, 0⟩

/-- The recipe of a number: 0 is the probe recipe, 1 to 31 the image's, absent when not enabled (R11, R12). -/
def recipe? (s : State) (n : Nat) : Option Recipe :=
  if n = 0 then some probeRecipe
  else match s.reader.tables with
    | none => none
    | some t => (t.recipes[n - 1]?).getD none

/-- The class table entry of class 1 to 15 (R4). -/
def class? (s : State) (c : Nat) : Option ClassEntry :=
  if c = 0 then none
  else match s.reader.tables with
    | none => none
    | some t => t.classes[c - 1]?

/-- Class `c` is read as enabled (R4, R5). -/
def classEnabled (s : State) (c : Nat) : Bool := ((class? s c).map (·.enabled)).getD false

/-- The group of class `c`, as a CERTIFICATE carries it (R28). -/
def groupOf (s : State) (c : Nat) : Group := ((class? s c).map (·.group)).getD .general

/-- The recipe for the pair (last class, next class), `none` for FORBIDDEN (R13). -/
def recipeForPair (s : State) (last next : Nat) : Option Nat :=
  match s.reader.tables with
  | none => none
  | some t =>
    if 1 ≤ last ∧ last ≤ 15 ∧ 1 ≤ next ∧ next ≤ 15 then
      match t.map[(last - 1) * 15 + (next - 1)]? with
      | none => none
      | some n => if 1 ≤ n ∧ n ≤ 31 ∧ (recipe? s n).isSome then some n else none
    else none

/-! ## The pass context -/

/-- A formed pass exists: any phase but NONE and GATHERING. -/
abbrev formed (p : Pass) : Prop := p.phase ≠ .none ∧ p.phase ≠ .gathering

/-- The recipe the pass runs. -/
def recipeOf (p : Pass) : Recipe := p.recipeData.getD probeRecipe

/-- A stage that stands for none. -/
def noStage : Stage where
  kind := .preRinse
  temperature := 0
  volume := 0
  flow := 0
  timeLimit := 0
  dose := 0
  inspection := .none
  repeatLimit := 1
  windowMax := 0

/-- The current stage: the stage of the pass context's stage index (R62, R159). -/
def stageOf (p : Pass) : Stage := ((recipeOf p).stages[p.stage - 1]?).getD noStage

/-- The recipe's FINAL_RINSE stage (R97). -/
def finalRinseOf (p : Pass) : Stage :=
  ((recipeOf p).stages.find? (fun g => decide (g.kind = .finalRinse))).getD noStage

/-- The member of compartment `i`. -/
def member? (p : Pass) (i : Nat) : Option Member := p.members.find? (fun m => m.index == i)

/-- Change the member of compartment `i`. -/
def Pass.updMember (i : Nat) (f : Member → Member) (p : Pass) : Pass :=
  { p with members := p.members.map (fun m => if m.index = i then f m else m) }

/-- The members that spray: neither passed nor retiring (section 4.3). -/
def sprayingMembers (p : Pass) : List Member :=
  p.members.filter (fun m => !m.passed && m.retiring.isNone)

/-- Every member still in the pass is retiring (R97). -/
def allRetiring (p : Pass) : Bool := p.members.all (fun m => m.retiring.isSome)

/-- The pass is aborting: from the abort to the end of drain-down (R100). -/
def aborting (p : Pass) : Bool := p.abortCode.isSome

/-- The key mark of compartment `i`, read from its record (R42). -/
def keyMarkOf (s : State) (i : Nat) : KeyMark := ((compartment? s i).map (·.keyMark)).getD .none

/-- The number of a code (R93). -/
def Code.number : Code → Nat
  | .abandoned => 1
  | .headUnseated => 2
  | .overflow => 3
  | .tempLow => 4
  | .stageTime => 5
  | .sensorAbsent => 6
  | .drainSlow => 7
  | .classMismatch => 8
  | .residuePersists => 9
  | .supplyLost => 10
  | .holdTooLong => 11
  | .keyRemoved => 12
  | .jobReleased => 13
  | .classUnresolved => 14

/-- Outcomes of a code (R93). -/
inductive CodeOutcome where
  | transient | persistent | withdrawn
deriving DecidableEq, Repr

/-- The outcome of each code (R93). -/
def Code.outcome : Code → CodeOutcome
  | .abandoned => .transient
  | .headUnseated => .transient
  | .overflow => .persistent
  | .tempLow => .transient
  | .stageTime => .transient
  | .sensorAbsent => .persistent
  | .drainSlow => .persistent
  | .classMismatch => .persistent
  | .residuePersists => .persistent
  | .supplyLost => .transient
  | .holdTooLong => .transient
  | .keyRemoved => .transient
  | .jobReleased => .withdrawn
  | .classUnresolved => .persistent

/-! ## Free choices -/

/-- Take two findings of one event that the manual lets come in either order (log 15): when both are there a free
value decides, otherwise `f` then `g`. -/
def eitherOrder (both : Bool) (f g : State → State) (s : State) : State :=
  if both then
    if Config.takeSecondFirst s.free then f (g (s.setFree (s.free + 1))) else g (f (s.setFree (s.free + 1)))
  else g (f s)

end Sys2Proof.Machine
end

