-- ==== Sys2Proof/Machine/Operands.lean ====
section
/-! DEFINITION. What the commands bring with them: the frames' layouts and the receive filter (R171 to R173), the
selection of a press (R41), the loop currents (R109, R111, R167), the setpoints as voltages (R183). -/

namespace Sys2Proof.Machine

/-! ## Received frames -/

/-- The node of a frame: identifier bits 6 to 3 (R171). -/
def frameNode (f : Frame) : Nat := (f.ident.extractLsb' 3 4).toNat

/-- Data byte `i`, 0 when the frame is shorter. -/
def byteAt (f : Frame) (i : Nat) : Nat := (f.data.getD i 0).toNat

/-- The two-byte quantity at byte `i`, its more significant byte first (R173). -/
def wordAt (f : Frame) (i : Nat) : Nat := byteAt f i * 256 + byteAt f (i + 1)

/-- The receive filter for a kind that is taken whatever node it bears (R172): a data frame with an 11-bit
identifier, of the kind, long enough, while the bus is not in bus-off. -/
abbrev taken (kind bytes : Nat) (f : Frame) (s : State) : Prop :=
  s.line.bus = .active ∧ f.extended = false ∧ f.remote = false ∧ f.kind = kind ∧ bytes ≤ f.data.length

/-- The receive filter for an office frame: also the node must be the bay's own (R172). -/
abbrev takenFromOffice (kind bytes : Nat) (f : Frame) (s : State) : Prop :=
  taken kind bytes f s ∧ frameNode f = nodeOf s

/-- The minimum grade code: 0 A, 1 B, 2 C, any other taken as A (R20, R173). -/
def gradeOfCode (n : Nat) : Grade := if n = 1 then .b else if n = 2 then .c else .a

/-- The fields of a JOB_POST header (R173), read as R20 states. -/
def readHeader (f : Frame) : Header where
  tag := f.data.take 5
  count := byteAt f 5 % 16
  minGrade := gradeOfCode (byteAt f 5 / 16 % 4)
  tolerance := min 2 (byteAt f 5 / 64)
  verify := (byteAt f 7).testBit 0
  detect := BitVec.ofNat 16 (wordAt f 6 / 2 * 2)

/-- The compartment index of a compartment frame (R173). -/
def readIndex (f : Frame) : Nat := byteAt f 0

/-- The content of a compartment frame (R173). -/
def readSlot (f : Frame) : Slot where
  volume := wordAt f 1
  lastClass := byteAt f 3 % 16
  nextClass := byteAt f 3 / 16
  keyed := (byteAt f 4).testBit 0
  fillTarget := wordAt f 5

/-- The plant state code (R155, R173). -/
def plantOfCode (n : Nat) : Plant := if n = 0 then .normal else if n = 1 then .reduced else .shutdown

/-- The fields of a DEMAND (R173), each clamped as R157 states. -/
def readDemand (f : Frame) : Demand where
  hot := min Config.maxHotDemand (wordAt f 0)
  eff := min Config.maxEffDemand (wordAt f 2)
  priority := min 2 (byteAt f 4 % 4)
  steady := (byteAt f 4).testBit 2
  age := wordAt f 5

/-- The bytes of a DEMAND as the bay sends it (R173). -/
def demandBytes (d : Demand) : List Byte :=
  [BitVec.ofNat 8 (d.hot / 256), BitVec.ofNat 8 d.hot, BitVec.ofNat 8 (d.eff / 256), BitVec.ofNat 8 d.eff,
   BitVec.ofNat 8 (d.priority + (if d.steady then 4 else 0)), BitVec.ofNat 8 (d.age / 256), BitVec.ofNat 8 d.age, 0]

/-- The identifier of a frame: kind, node, frame number modulo 8 (R171). -/
def identOf (kind node number : Nat) : BitVec 11 := BitVec.ofNat 11 (kind * 128 + node * 8 + number % 8)

/-! ## Presses -/

/-- The selection handed with a press: the compartments of the job in service whose switches are on, ascending;
empty with no job in service (R41). -/
def selection (switches : Lines8) (s : State) : List Nat :=
  if jobInService s then (s.job.table.map (·.index)).filter (fun i => lineOn switches i) else []

/-! ## Loop currents -/

/-- The count of a loop current at a gain, 0 to 4,095 (R109). -/
def loopCount (gain current : Nat) : Nat :=
  if current ≤ Config.fourMilliamp then 0
  else min 4095 ((current - Config.fourMilliamp) * gain * 4095 / Config.spanCurrent)

/-- The reading of a count at a gain (R111). -/
def readingOf (ch : Channel) (gain count : Nat) : Nat :=
  match ch with
  | .conductivity => count * 625 / (128 * gain)
  | .turbidity => count * 125 / (128 * gain)
  | .temperature => count * 120 / 4095

/-- The sump level of a loop current over a capacity (R167). -/
def levelOf (capacity current : Nat) : Nat :=
  if current ≤ Config.fourMilliamp then 0
  else if Config.twentyMilliamp ≤ current then capacity
  else (current - Config.fourMilliamp) * capacity / Config.spanCurrent

/-- The capacity that scales the sump level: the image's; without a good image the spec gives none (log 10). -/
def sumpCapacity (s : State) : Nat :=
  match s.reader.tables with
  | some t => t.yard.capacity
  | none => Config.capacityWithoutImage

/-- The sump level in whole percent of the capacity (R167). -/
def sumpPercent (s : State) : Nat := s.share.level * 100 / sumpCapacity s

/-! ## Setpoints -/

/-- A setpoint as driven, in mV: 10 V at `full`, rounded down to 10 mV (R183). -/
def millivolts (full value : Nat) : Nat := value * 1000 / full * 10

end Sys2Proof.Machine
end

