-- ==== Sys2Proof/Machine/Flags.lean ====
section
/-! DEFINITION. The conditions the blocks judge by: terminal compartments, nominal flow and volume target, the agent
allowance, the starvation and resumption conditions, presence of the inspected channels, admission, filtering. -/

namespace Sys2Proof.Machine

/-! ## Compartments -/

/-- A compartment is terminal (R32). -/
def terminal (c : Compartment) : Bool :=
  match c.state with
  | .filled => true
  | .rejected => true
  | .barred => true
  | .clean => c.fillTarget == 0
  | .unknown => false
  | .soiled => false
  | .scheduled => false
  | .washing => false
  | .filling => false
  | .partFilled => false

/-- A compartment is unknown in the sense of the probe rules (R48). -/
def unknownCargo (c : Compartment) : Bool :=
  decide (c.state = .unknown) || (decide (c.state = .rejected) && c.lastClass == 0)

/-- Rank of a grade, A best (R141). -/
def Grade.rank : Grade → Nat
  | .a => 2
  | .b => 1
  | .c => 0

/-- What the six admission checks decide for a compartment (R45 to R50). -/
inductive Admission where
  | admitted (mark : KeyMark) (recipe : Nat)
  | skipped
  | refused (r : Reason)
deriving DecidableEq, Repr

/-- Check 1: the state allows washing (R46); `none` when passed. -/
def stateCheck (keyOn : Bool) (c : Compartment) : Option Reason :=
  match c.state with
  | .soiled => none
  | .unknown => none
  | .rejected => if keyOn then none else some .notSoiled
  | .barred => some .barred
  | .scheduled => some .notSoiled
  | .washing => some .notSoiled
  | .clean => some .notSoiled
  | .filling => some .notSoiled
  | .partFilled => some .notSoiled
  | .filled => some .notSoiled

/-- Checks 4 to 6: the probe rules, the recipe and the size of the batch (R48, R49); `none` when passed. -/
def batchCheck (p : Pass) (c : Compartment) : Option Reason :=
  if p.batch = [] then none
  else if p.probe || unknownCargo c then some .probeAlone
  else if c.recipe ≠ p.batchRecipe then some .recipeDiffers
  else if p.batch.length < 4 then none else some .batchFull

/-- The key mark at admission (R50). -/
def admissionMark (c : Compartment) : KeyMark :=
  if c.keyed then .keyed else if c.state = .rejected then .rejected else .none

/-- The recipe a compartment brings to an empty batch: 0 for an unknown one (R48, R49). -/
def admissionRecipe (c : Compartment) : Nat := if unknownCargo c then 0 else c.recipe.getD 0

/-- The six admission checks, in their order (R45). -/
def admission (s : State) (c : Compartment) : Admission :=
  match stateCheck (keyIsOn s) c with
  | some r => .refused r
  | none =>
    if c.keyed && !keyIsOn s then .skipped
    else if !headOn s c.index then .refused .headNotSeated
    else match batchCheck s.pass c with
      | some r => .refused r
      | none => .admitted (admissionMark c) (admissionRecipe c)

/-! ## The stage that runs -/

/-- A hot stage has a temperature target (R7). -/
def Stage.hot (g : Stage) : Bool := decide (g.temperature ≠ 0)

/-- The nominal flow: flow per head times spraying members (R65). -/
def nominalFlow (p : Pass) : Nat := (stageOf p).flow * (sprayingMembers p).length

/-- Half the nominal flow, rounded up (R86). -/
def halfNominal (p : Pass) : Nat := (nominalFlow p + 1) / 2

/-- The volume target in supply pulses of 0.5 L (R68). -/
def volumeTarget (p : Pass) : Nat := 2 * ((stageOf p).volume * (sprayingMembers p).length)

/-- The SPRAY has its volume: pulses counted at or above the target as it stands (R68). -/
def volumeReached (p : Pass) : Bool :=
  match p.spray with
  | some r => decide (volumeTarget p ≤ r.supply)
  | none => false

/-- The agent allowance, in agent pulses, for the supply pulses counted (R70). -/
def agentAllowance (g : Stage) (supply : Nat) : Nat := supply * g.dose / 200

/-- The agent pump runs: in SPRAY of a WASH stage with a dose, below the allowance (R70). -/
def agentPumpOn (p : Pass) : Bool :=
  match p.spray with
  | some r => decide (p.phase = .spray) && decide ((stageOf p).kind = .wash)
      && decide (r.agent < agentAllowance (stageOf p) r.supply)
  | none => false

/-- A run-down entered from SPRAY, or SPRAY itself: supply and agent pulses count into the spray record (R68, R70). -/
def countsSpray (p : Pass) : Bool :=
  decide (p.phase = .spray) || (decide (p.phase = .runDown) && p.fromSpray)

/-- The sump level is at or above the high mark (R86). -/
def sumpHigh (s : State) : Bool :=
  match s.reader.tables with
  | some t => decide (t.yard.highMark ≤ s.share.level)
  | none => false

/-- The sump level is at or below the resume mark (R87). -/
def sumpResumed (s : State) : Bool :=
  match s.reader.tables with
  | some t => decide (s.share.level ≤ t.yard.resumeMark)
  | none => false

/-- The starvation condition (R86, R169): a hot stage with a share below half the nominal flow, or a sump at the high
mark; without a formed pass the sump alone. -/
def starvation (s : State) : Bool :=
  (decide (formed s.pass) && (stageOf s.pass).hot && decide (s.share.hotShare < halfNominal s.pass)) || sumpHigh s

/-- The resumption condition (R87). -/
def resumption (s : State) : Bool :=
  (!(stageOf s.pass).hot || decide (halfNominal s.pass ≤ s.share.hotShare)) && sumpResumed s

/-! ## Channels -/

/-- The inspection names the channel (R7). -/
def names (n : Inspection) (ch : Channel) : Bool :=
  match n, ch with
  | .cond, .conductivity => true
  | .both, .conductivity => true
  | .turb, .turbidity => true
  | .both, .turbidity => true
  | _, _ => false

/-- The recipe inspects the channel: at least one of its stages names it (R8). -/
def inspects (r : Recipe) (ch : Channel) : Bool := r.stages.any (fun g => names g.inspection ch)

/-- A channel the current stage names is ABSENT (R91). -/
def namedAbsent (s : State) : Bool :=
  (names (stageOf s.pass).inspection .conductivity && !s.diu.c.present)
  || (names (stageOf s.pass).inspection .turbidity && !s.diu.t.present)

/-- An inspected window is open (R91, R115). -/
def inspectedOpen (s : State) : Bool := (s.diu.window.map (·.inspected)).getD false

/-- The engine watches the presence of the named channels: in FLUSH or while an inspected window is open, SENSOR_ABSENT
not yet raised in this stage run (R91). -/
def watchesSensors (s : State) : Bool :=
  !s.pass.skipped && (decide (s.pass.phase = .flush) || (decide (s.pass.phase = .drain) && inspectedOpen s))

/-- SENSOR_ABSENT is to be raised: a named channel absent while the engine watches (R91). -/
def sensorFault (s : State) : Bool := namedAbsent s && watchesSensors s && !aborting s.pass

/-- A named channel is lost in the ms of an abort, or of a retirement after which the engine watches it no more, and
SENSOR_ABSENT has not yet been raised in the stage run (R91, R92; log 34). -/
def sensorFaultLate (s : State) : Bool :=
  s.pass.late.sensor && namedAbsent s && (aborting s.pass || !s.pass.skipped)

/-! ## Faults of a pass -/

/-- A fault's class is filtered at a tolerance (R81). -/
def filtered (tolerance cls : Nat) : Bool :=
  (cls == 3 && decide (1 ≤ tolerance)) || (cls == 2 && decide (2 ≤ tolerance))

/-- Class of the member-scope faults (R89). -/
def memberFaultClass : FaultKind → Nat
  | .drainSlow => 3
  | _ => 1

/-- The code a pass fault gives when it is not filtered (R89, R93). -/
def FaultKind.code : FaultKind → Code
  | .headUnseated => .headUnseated
  | .overflow => .overflow
  | .tempLow => .tempLow
  | .stageTime => .stageTime
  | .sensorAbsent => .sensorAbsent
  | .drainSlow => .drainSlow
  | .classMismatch => .classMismatch
  | _ => .abandoned

/-- The members that are not retiring and whose head-seated line is off, ascending (R90). -/
def unseated (s : State) : List Nat :=
  (s.pass.members.filter (fun m => m.retiring.isNone && !headOn s m.index)).map (·.index)

/-- The spraying members whose probe is wet, ascending (R90). -/
def flooded (s : State) : List Nat :=
  ((sprayingMembers s.pass).filter (fun m => probeWet s m.index)).map (·.index)

/-- The running spray time stands at the stage's time limit in SPRAY (R69). -/
def timeLimitReached (p : Pass) : Bool :=
  decide (p.phase = .spray)
  && (p.spray.map (fun r => decide ((stageOf p).timeLimit * 1000 ≤ r.timeMs))).getD false

/-! ## Faults of one instant (R92, R102; log 34) -/

/-- The members that are not retiring and whose head-seated line, on as it stands, the engine watches (R90). -/
def watchedHeads (s : State) : List Nat :=
  if s.pass.phase = .flush ∨ s.pass.phase = .spray ∨ s.pass.phase = .drain then
    (s.pass.members.filter (fun m => m.retiring.isNone && headOn s m.index)).map (·.index)
  else []

/-- The spraying members whose probe, dry as it stands, the engine watches (R90). -/
def watchedProbes (s : State) : List Nat :=
  if s.pass.phase = .spray then ((sprayingMembers s.pass).filter (fun m => !probeWet s m.index)).map (·.index)
  else []

/-- The low-temperature time of the SPRAY of a hot stage whose TEMP_LOW is still to come (R71). -/
def lowPending (p : Pass) : Option Nat :=
  match p.spray with
  | some r => if p.phase = .spray ∧ (stageOf p).hot = true ∧ r.tempRaised = false then some r.lowMs else none
  | none => none

/-- The pass-scope faults that may still come in this ms: those that the engine watches for and that have not come,
with those that it has watched for before a retirement of this ms (R92). -/
def lateOfPass (s : State) : Late :=
  { s.pass.late with
    sensor := (s.pass.late.sensor || watchesSensors s) && !namedAbsent s
    timeDue := s.pass.late.timeDue || timeLimitReached s.pass
    low := (lowPending s.pass).or s.pass.late.low }

/-- What may still come in the ms of an abort taken with `code` (R92, R102): every watched line, channel and limit that
has not given its fault. -/
def lateOfAbort (code : Code) (s : State) : Late :=
  { lateOfPass s with
    heads := s.pass.late.heads ++ watchedHeads s
    probes := s.pass.late.probes ++ watchedProbes s
    timeDue := (lateOfPass s).timeDue && decide (code ≠ .stageTime)
    left := [] }

/-- What may still come in the ms in which member `i` retires (R90, R92): its own watched line and probe. -/
def lateOfRetiring (i : Nat) (s : State) : Late :=
  { s.pass.late with
    heads := s.pass.late.heads ++ (watchedHeads s).filter (· == i)
    probes := s.pass.late.probes ++ (watchedProbes s).filter (· == i) }

/-- The members whose line of fault `k` may still come. -/
def Late.lines (k : FaultKind) (l : Late) : List Nat := if k = .headUnseated then l.heads else l.probes

/-- The line of fault `k` of member `i` has come. -/
def Late.spend (k : FaultKind) (i : Nat) (l : Late) : Late :=
  if k = .headUnseated then { l with heads := l.heads.filter (· != i) }
  else { l with probes := l.probes.filter (· != i) }

/-- The pass with what may still come in this ms. -/
def Pass.setLate (l : Late) (p : Pass) : Pass := { p with late := l }

/-! ## Demand -/

/-- The hot demand (R65): the nominal flow while a hot stage is in FLUSH, SPRAY, STARVED or a run-down toward
STARVED. -/
def hotDemand (p : Pass) : Nat :=
  if (stageOf p).hot then
    match p.phase with
    | .flush => nominalFlow p
    | .spray => nominalFlow p
    | .starved => nominalFlow p
    | .runDown => if p.dest = some .starved then nominalFlow p else 0
    | .none => 0
    | .gathering => 0
    | .drain => 0
    | .dry => 0
    | .held => 0
    | .drainDown => 0
  else 0

/-- The priority (R159). -/
def priorityOf (p : Pass) : Nat :=
  if formed p then
    if (stageOf p).kind = .finalRinse then 2 else if (stageOf p).hot then 1 else 0
  else 0

/-- The bay's own demand (R159), formed from the pass, the pump-out state and the steady flag. -/
def ownDemand (s : State) : Demand where
  hot := hotDemand s.pass
  eff := match s.reader.tables with
    | some t => if s.share.pumpOut then t.yard.maxRate else 0
    | none => 0
  priority := priorityOf s.pass
  steady := s.share.steadyFlag
  age := s.pass.age

end Sys2Proof.Machine
end

