-- ==== Sys2Proof/Machine/JobOps.lean ====
section
/-! DEFINITION. The job unit's operations (chapter 2): the requests it takes from the pass engine and the fill unit,
the close check, the end of a release, assembly and acceptance, the reports. -/

namespace Sys2Proof.Machine

/-! ## Tallies (R35) -/

/-- The job is OPEN or RELEASING: the clock runs and pulses are tallied (R34, R35). -/
def jobRuns (s : State) : Bool :=
  match s.job.state with
  | .opened => true
  | .releasing => true
  | .noJob => false
  | .assembling => false
  | .closed => false

/-- `n` supply pulses to the supply tally. -/
def tallySupply (n : Nat) (s : State) : State :=
  if jobRuns s then s.setJob { s.job with supplyTally := satAdd Config.max32 s.job.supplyTally n } else s
/-- `n` agent pulses to the agent tally. -/
def tallyAgent (n : Nat) (s : State) : State :=
  if jobRuns s then s.setJob { s.job with agentTally := satAdd Config.max32 s.job.agentTally n } else s
/-- One drain pulse to the effluent tally. -/
def tallyEffluent (s : State) : State :=
  if jobRuns s then s.setJob { s.job with effluentTally := satAdd Config.max32 s.job.effluentTally 1 } else s
/-- `n` product pulses to the product tally. -/
def tallyProduct (n : Nat) (s : State) : State :=
  if jobRuns s then s.setJob { s.job with productTally := satAdd Config.max32 s.job.productTally n } else s

/-! ## The end of a job -/

/-- The close check (R32): in OPEN, with every compartment terminal, the clock stops, a COMPLETE report is queued and
the job is CLOSED; a batch still gathering is then empty and ends with it (R58). -/
def closeCheck (s : State) : State :=
  if s.job.state = .opened ∧ s.job.table.all terminal = true then
    let s1 := queueEvent (.jobReport (jobNumber s) .complete) s
    let s2 := s1.setJob { s1.job with state := .closed }
    if s2.pass.phase = .gathering then s2.setPass Pass.idle else s2
  else s

/-- The release finishes (R38): the clock stops, a RELEASED report is queued, the table is retained and the job unit
is in NO_JOB, where the clock reads 0 (R34, log 18). -/
def finishRelease (s : State) : State :=
  let s1 := queueEvent (.jobReport (jobNumber s) .released) s
  s1.setJob { s1.job with state := .noJob, clock := 0, clockSub := 0 }

/-- In RELEASING, the release finishes once the engine is in NONE and the fill unit IDLE (R38). -/
def releaseCheck (s : State) : State :=
  if s.job.state = .releasing ∧ s.pass.phase = .none ∧ s.fill.ctx = none then finishRelease s else s

/-! ## Requests of the pass engine (R29, R30) -/

/-- ADMIT (R29). -/
def requestAdmission (i : Nat) (mark : KeyMark) (s : State) : State :=
  updCompartment i (fun c => { c with state := .scheduled, keyMark := mark }) s

/-- RETURN (R29). -/
def requestReturn (b : BatchMember) (s : State) : State :=
  updCompartment b.index (fun c => { c with state := b.prior, keyMark := .none }) s

/-- RETURN with the close check that follows it (R32, R54). -/
def requestReturnChecked (b : BatchMember) (s : State) : State := closeCheck (requestReturn b s)

/-- ENTER_WASHING for one member (R29). -/
def requestWashing (i : Nat) (s : State) : State :=
  updCompartment i (fun c => { c with state := .washing, attempts := satAdd 255 c.attempts 1 }) s

/-- COMMIT (R30). -/
def requestCommit (i : Nat) (cert : Certificate) (s : State) : State :=
  updCompartment i (fun c => { c with state := .clean, certificate := some cert, keyMark := .none }) s

/-- IDENTIFY (R30): the last class is set and the pair looked up (R13). -/
def requestIdentify (i cls : Nat) (s : State) : State :=
  updCompartment i (fun c =>
    match recipeForPair s cls c.nextClass with
    | some n => { c with lastClass := cls, recipe := some n, state := .soiled, keyMark := .none }
    | none => { c with lastClass := cls, state := .barred, keyMark := .none }) s

/-- RESTORE (R30, R94). -/
def requestRestore (m : Member) (s : State) : State :=
  updCompartment m.index (fun c => { c with state := m.ckState, lastClass := m.ckClass, keyMark := .none }) s

/-- REJECT (R30, R94). -/
def requestReject (i : Nat) (s : State) : State :=
  updCompartment i (fun c => { c with state := .rejected, keyMark := .none }) s

/-- WITHDRAW (R30, R94). -/
def requestWithdraw (i : Nat) (s : State) : State :=
  updCompartment i (fun c => { c with keyMark := .none }) s

/-- The request of a code's outcome (R93). -/
def requestOutcome (code : Code) (m : Member) (s : State) : State :=
  match code.outcome with
  | .transient => requestRestore m s
  | .persistent => requestReject m.index s
  | .withdrawn => requestWithdraw m.index s

/-! ## Requests of the fill unit (R31) -/

/-- FILL_BEGIN. -/
def requestFillBegin (i : Nat) (s : State) : State :=
  updCompartment i (fun c => { c with state := .filling }) s

/-- FILL_END: product metered grows, the record is stored, the state set, FILL_RECORD queued, the close check made. -/
def requestFillEnd (r : FillRecord) (s : State) : State :=
  let s1 := updCompartment r.compartment (fun c =>
    { c with state := r.result, metered := satAdd Config.max32 c.metered r.metered, fillRecord := some r }) s
  closeCheck (queueEvent (.fillRecord (jobTag s1) (jobNumber s1) r) s1)

/-! ## Assembly and acceptance (R19 to R26) -/

/-- A JOB_RESPONSE joins the FIFO (R26). -/
def respond (tag : List Byte) (o : JobOutcome) (number : Nat) (detail : List Nat) (s : State) : State :=
  queueEvent (.jobResponse { tag := tag, outcome := o, number := number, detail := detail }) s

/-- The assembly record is filled from a header: all slots empty, the deadline started (R19). -/
def beginAssembly (h : Header) (priorClosed : Bool) (s : State) : State :=
  s.setJob { s.job with
    state := .assembling
    assembly := some { header := h, slots := List.replicate h.count none, priorClosed := priorClosed,
                       deadline := Config.assemblyDeadline } }

/-- The assembly is discarded and the job unit returns to the prior state (R22, R23). -/
def dropAssembly (a : Assembly) (s : State) : State :=
  s.setJob { s.job with state := if a.priorClosed then .closed else .noJob, assembly := none }

/-- A header in an in-service bay, by the job state (R19). -/
def takeHeader (h : Header) (s : State) : State :=
  match s.job.state with
  | .opened => respond h.tag (.refused .busy) 0 [] s
  | .releasing => respond h.tag (.refused .busy) 0 [] s
  | .noJob =>
    if 1 ≤ h.count ∧ h.count ≤ 8 then beginAssembly h false s else respond h.tag (.refused .badCount) 0 [] s
  | .closed =>
    if 1 ≤ h.count ∧ h.count ≤ 8 then beginAssembly h true s else respond h.tag (.refused .badCount) 0 [] s
  | .assembling =>
    match s.job.assembly with
    | none => s
    | some a =>
      if 1 ≤ h.count ∧ h.count ≤ 8 then
        beginAssembly h a.priorClosed (respond a.header.tag (.refused .superseded) 0 [] s)
      else respond h.tag (.refused .badCount) 0 [] s

/-- The slots when none is empty (R21). -/
def fullSlots : List (Option Slot) → Option (List Slot)
  | [] => some []
  | none :: _ => none
  | some x :: xs => (fullSlots xs).map (x :: ·)

/-- The lowest index, from `n` on, whose volume is out of 500 to 20,000 L (R23). -/
def badVolume : Nat → List Slot → Option Nat
  | _, [] => none
  | n, x :: xs => if 500 ≤ x.volume ∧ x.volume ≤ 20000 then badVolume (n + 1) xs else some n

/-- A compartment record from its slot (R24). -/
def makeCompartment (s : State) (i : Nat) (x : Slot) : Compartment :=
  let last := if classEnabled s x.lastClass then x.lastClass else 0
  let pair := recipeForPair s last x.nextClass
  let st : CState :=
    if !classEnabled s x.nextClass then .barred
    else if last = 0 then .unknown
    else if pair.isSome then .soiled else .barred
  { index := i, volume := x.volume, lastClass := last, nextClass := x.nextClass,
    recipe := if st = .soiled then pair else none, keyed := x.keyed,
    fillTarget := min x.fillTarget (x.volume * 98 / 100), state := st, attempts := 0, keyMark := .none,
    certificate := none, metered := 0, fillRecord := none }

/-- The table from the slots, indexes from `n` on (R24). -/
def makeTable (s : State) : Nat → List Slot → List Compartment
  | _, [] => []
  | n, x :: xs => makeCompartment s n x :: makeTable s (n + 1) xs

/-- The next job number (R25). -/
def nextJobNumber (last : Nat) : Nat := if last = 255 then 1 else last + 1

/-- Acceptance as one step (R25), then the close check. -/
def acceptJob (a : Assembly) (slots : List Slot) (s : State) : State :=
  let table := makeTable s 1 slots
  let n := nextJobNumber s.job.lastNumber
  let s1 := s.setJob { state := .opened
                       record := some { tag := a.header.tag, count := a.header.count, minGrade := a.header.minGrade,
                                        tolerance := a.header.tolerance, verify := a.header.verify,
                                        detect := a.header.detect, number := n }
                       table := table, assembly := none, supplyTally := 0, agentTally := 0, effluentTally := 0,
                       productTally := 0, clock := 0, clockSub := 0, passCounter := 0, lastNumber := n }
  closeCheck (respond a.header.tag .accepted n
    ((table.filter (fun c => decide (c.state = .barred))).map (·.index)) s1)

/-- The check of a full assembly (R23). -/
def checkAssembly (a : Assembly) (slots : List Slot) (s : State) : State :=
  match badVolume 1 slots with
  | some i => dropAssembly a (respond a.header.tag (.refused .badVolume) 0 [i] s)
  | none => acceptJob a slots s

/-- A compartment frame in ASSEMBLING (R21). -/
def takeSlot (i : Nat) (x : Slot) (s : State) : State :=
  match s.job.state, s.job.assembly with
  | .assembling, some a =>
    if 1 ≤ i ∧ i ≤ a.header.count then
      let b := { a with slots := a.slots.set (i - 1) (some x) }
      match fullSlots b.slots with
      | some slots => checkAssembly b slots s
      | none => s.setJob { s.job with assembly := some b }
    else s
  | _, _ => s

/-! ## Reports (R39, R40) -/

/-- The compartment entry of a report (R40). -/
def reportEntry (c : Compartment) : ReportEntry where
  index := c.index
  state := c.state
  lastClass := c.lastClass
  nextClass := c.nextClass
  recipe := c.recipe
  keyed := c.keyed
  attempts := c.attempts
  fillTarget := c.fillTarget
  certificate := c.certificate.map (fun x => (x.grade, x.passNumber))
  metered := c.metered
  lastCause := c.fillRecord.map (·.cause)

/-- A JOB_REPORT composed whole (R40): from the table in service or retained when it is that job's, else with table
present no. -/
def composeReport (number : Nat) (cause : CloseCause) (s : State) : Report :=
  match s.job.record with
  | some r =>
    if r.number = number then
      { tag := r.tag, jobNumber := number, cause := cause,
        body := some { jobState := if jobInService s then s.job.state else .noJob, gap := s.line.gap,
                       clock := s.job.clock, passCounter := s.job.passCounter, supplyTally := s.job.supplyTally,
                       agentTally := s.job.agentTally, effluentTally := s.job.effluentTally,
                       productTally := s.job.productTally, count := r.count,
                       entries := s.job.table.map reportEntry } }
    else { tag := blankTag, jobNumber := number, cause := cause, body := none }
  | none => { tag := blankTag, jobNumber := number, cause := cause, body := none }

/-- The answer to REPORT_RECALL (R39). -/
def answerRecall (s : State) : State :=
  match s.job.state with
  | .opened => queueEvent (.jobReport (jobNumber s) .snapshot) s
  | .releasing => queueEvent (.jobReport (jobNumber s) .snapshot) s
  | .closed => queueEvent (.jobReport (jobNumber s) .complete) s
  | .noJob => respond blankTag .noJob 0 [] s
  | .assembling => respond blankTag .noJob 0 [] s

end Sys2Proof.Machine
end

