-- ==== Sys2Proof/Machine/DiuOps.lean ====
section
/-! DEFINITION. The drain inspection unit's operations (chapter 6): conditioning of the loops, the flush baseline, the
drain window, masses and verdicts, histories; and the arithmetic of prediction and signature (chapter 7). -/

namespace Sys2Proof.Machine

/-! ## Conditioning (R109 to R112) -/

/-- Presence after a sample: four consecutive samples on the far side of 3.6 mA change it (R112). -/
def stepPresence (current : Nat) (x : Loop) : Loop :=
  if decide (current < Config.presenceCurrent) = x.present then
    if 3 ≤ x.run then { x with present := !x.present, run := 0 } else { x with run := x.run + 1 }
  else { x with run := 0 }

/-- The gain for the next sample (R110). -/
def nextGain (gain count : Nat) : Nat :=
  if 3686 ≤ count ∧ 1 < gain then gain / 2
  else if count < 1638 ∧ gain < 8 then gain * 2
  else gain

/-- One sample of one loop: presence, then count and reading, then the gain for the next sample (R109, R111; the
temperature channel keeps gain 1, R110). -/
def conditionLoop (ch : Channel) (current : Nat) (x : Loop) : Loop :=
  let p := stepPresence current x
  let r := loopCount x.gain current
  { p with
    reading := if p.present then readingOf ch x.gain r else 0
    gain := if ch = .temperature then x.gain else nextGain x.gain r }

/-- The sample is saturated: full count at gain 1 (R111). -/
def saturated (gain current : Nat) : Bool := decide (gain = 1) && decide (loopCount gain current = 4095)

/-- All three channels are sampled together from the input pins, and the sample clock goes on to the next period
(R109). -/
def sampleLoops (s : State) : State :=
  s.setDiu { s.diu with
    c := conditionLoop .conductivity s.panel.loopC s.diu.c
    t := conditionLoop .turbidity s.panel.loopT s.diu.t
    temp := conditionLoop .temperature s.panel.loopTemp s.diu.temp
    clock := Config.samplePeriod }

/-! ## The flush record (R113, R114) -/

/-- A reading joins a flush record until it holds 8. -/
def addFlush (f : FlushRec) (reading : Nat) : FlushRec :=
  if f.count < 8 then { count := f.count + 1, sum := f.sum + reading } else f

/-- The baseline of a full flush record (R113). -/
def baselineOf (f : FlushRec) (old : Option Nat) : Option Nat := if f.count = 8 then some (f.sum / 8) else old

/-- The flush record is being taken: in FLUSH, the stage run's inspection not skipped (R113, R114). -/
def recording (s : State) : Bool := decide (s.pass.phase = .flush) && !s.pass.skipped

/-- The readings of a sample join the flush records of the channels named (R113). -/
def recordFlush (s : State) : State :=
  if recording s then
    let n := (stageOf s.pass).inspection
    let fc := if names n .conductivity then addFlush s.diu.flushC s.diu.c.reading else s.diu.flushC
    let ft := if names n .turbidity then addFlush s.diu.flushT s.diu.t.reading else s.diu.flushT
    s.setDiu { s.diu with flushC := fc, flushT := ft,
                          baseC := if names n .conductivity then baselineOf fc s.diu.baseC else s.diu.baseC,
                          baseT := if names n .turbidity then baselineOf ft s.diu.baseT else s.diu.baseT }
  else s

/-- A flush record with the samples still missing taken at a reading (log 21). -/
def completeFlush (f : FlushRec) (reading : Nat) : FlushRec :=
  if f.count < 8 then { count := 8, sum := f.sum + (8 - f.count) * reading } else f

/-- The baseline of channel `ch` is formed, missing samples at its present reading (R113, log 21). -/
def formBaseline (ch : Channel) (s : State) : State :=
  if recording s && names (stageOf s.pass).inspection ch then
    match ch with
    | .conductivity =>
      let f := completeFlush s.diu.flushC s.diu.c.reading
      s.setDiu { s.diu with flushC := f, baseC := baselineOf f s.diu.baseC }
    | .turbidity =>
      let f := completeFlush s.diu.flushT s.diu.t.reading
      s.setDiu { s.diu with flushT := f, baseT := baselineOf f s.diu.baseT }
    | .temperature => s
  else s

/-- Both flush records cleared: a baseline already formed is held (R114). -/
def Diu.clearFlushRecord (d : Diu) : Diu := { d with flushC := ⟨0, 0⟩, flushT := ⟨0, 0⟩ }

/-- Both flush records cleared and both baselines absent (R108, R113, R114). -/
def Diu.clearFlush (d : Diu) : Diu := { d.clearFlushRecord with baseC := none, baseT := none }

/-- FLUSH entry at the DIU: records and baselines cleared, the gain of each named channel set to 1 (R113). -/
def startFlush (n : Inspection) (s : State) : State :=
  let d := s.diu.clearFlush
  s.setDiu { d with
    c := if names n .conductivity then { d.c with gain := 1 } else d.c
    t := if names n .turbidity then { d.t with gain := 1 } else d.t }

/-- The pass has ended: baselines absent, flush records cleared, no window, no history (R108, R127). -/
def endPassDiu (s : State) : State :=
  s.setDiu { s.diu.clearFlush with window := none, histories := [] }

/-! ## The drain window (R115 to R118) -/

/-- A fresh account of an inspected channel. -/
def freshChannel : ChannelWin := ⟨0, 0, false⟩

/-- The DIU sets up a window record and restarts the sample clock (R115). -/
def openRecord (w : Window) (s : State) : State :=
  s.setDiu { s.diu with window := some w, clock := Config.samplePeriod }

/-- The window becomes uninspected: accumulations, peaks and marks discarded, the pulse account kept (R118). -/
def Window.uninspect (w : Window) : Window :=
  { w with inspected := false, c := none, t := none, paramsC := none, paramsT := none }

/-- The open window becomes uninspected. -/
def uninspectWindow (s : State) : State := s.setDiu { s.diu with window := s.diu.window.map Window.uninspect }

/-- The excess of a reading over the baseline (R116). -/
def excess (reading : Nat) (base : Option Nat) : Nat := reading - base.getD 0

/-- One sample of an inspected channel (R116). -/
def ChannelWin.sample (e p : Nat) (sat : Bool) (x : ChannelWin) : ChannelWin :=
  { acc := satAdd Config.max32 x.acc (e * p), peak := max x.peak e, sat := x.sat || sat }

/-- One sample of a window: the inspected channels (R116) and the pulse account (R117). -/
def Window.takeSample (eC eT : Nat) (satC satT : Bool) (w : Window) : Window :=
  { w with
    c := w.c.map (ChannelWin.sample eC w.pulses satC)
    t := w.t.map (ChannelWin.sample eT w.pulses satT)
    sample := w.sample + 1
    firstPulse := w.firstPulse || decide (0 < w.pulses)
    zeroRun := if 0 < w.pulses then 0 else if w.firstPulse then w.zeroRun + 1 else w.zeroRun
    drained := w.drained + w.pulses
    pulses := 0 }

/-- End causes of a window (R117). -/
inductive EndCause where
  | drained | noFlow | overtime
deriving DecidableEq, Repr

/-- The end cause at a sample, the first that applies (R117). -/
def Window.endCause (w : Window) : Option EndCause :=
  if 12 ≤ w.zeroRun then some .drained
  else if w.sample = 40 ∧ w.firstPulse = false then some .noFlow
  else if w.sample = w.maxSamples then some .overtime
  else none

/-- The window's record after the sample the DIU holds readings of; `satC`, `satT` say it was saturated. -/
def windowSample (satC satT : Bool) (s : State) (w : Window) : Window :=
  w.takeSample (excess s.diu.c.reading s.diu.baseC) (excess s.diu.t.reading s.diu.baseT) satC satT

/-! ## Masses and verdicts (R119 to R122) -/

/-- Verdicts (R121). -/
inductive Verdict where
  | clear | marginal | dirty | noData
deriving DecidableEq, Repr

/-- The order of verdicts, best first (R122). -/
def Verdict.rank : Verdict → Nat
  | .clear => 0
  | .marginal => 1
  | .dirty => 2
  | .noData => 3

/-- The worse of two verdicts (R122). -/
def worse (a b : Verdict) : Verdict := if a.rank ≤ b.rank then b else a

/-- The residue mass of an accumulation (R119). -/
def residueMass (k acc : Nat) : Nat := min Config.max32 (acc * k / 4096)

/-- The limit of a channel for a member (R120). -/
def residueLimit (limit volume : Nat) : Nat := limit * volume / 1000

/-- The channel verdict, by the first row that applies (R121). -/
def channelVerdict (p : ChannelParams) (volume drained : Nat) (x : ChannelWin) : Verdict :=
  if drained = 0 then .noData
  else if x.sat = true ∨ p.dirty < x.peak then .dirty
  else if x.peak ≤ p.clear ∧ residueMass p.k x.acc ≤ residueLimit p.limit volume then .clear
  else .marginal

/-- The verdict of a channel of a window that inspects it and has been handed its parameters (R121). -/
def verdictOf (p : Option ChannelParams) (x : Option ChannelWin) (volume drained : Nat) : Option Verdict :=
  match p, x with
  | some q, some y => some (channelVerdict q volume drained y)
  | _, _ => none

/-- The member verdict of an inspected window: its channel's, or the worse of the two (R122). -/
def memberVerdict (w : Window) : Option Verdict :=
  match verdictOf w.paramsC w.c w.volume w.drained, verdictOf w.paramsT w.t w.volume w.drained with
  | some x, some y => some (worse x y)
  | some x, none => some x
  | none, some y => some y
  | none, none => none

/-! ## Histories (R125 to R127) -/

/-- A window's entry for one channel: its mass, when the window inspects the channel and has its parameters (R119,
R124, R126). -/
def massEntry (p : Option ChannelParams) (x : Option ChannelWin) : List Nat :=
  match p, x with
  | some q, some y => [residueMass q.k y.acc]
  | _, _ => []

/-- The window's entries are appended to its member's histories; a probe or uninspected window appends none
(R126). -/
def appendHistory (w : Window) (hs : List History) : List History :=
  hs.map (fun h =>
    if h.index = w.member then
      { h with c := h.c ++ massEntry w.paramsC w.c, t := h.t ++ massEntry w.paramsT w.t }
    else h)

/-- The window record closes, its entries appended (R122, R126). -/
def closeRecord (w : Window) (s : State) : State :=
  s.setDiu { s.diu with window := none, histories := appendHistory w s.diu.histories }

/-- A member's histories are discarded (R127). -/
def dropHistory (i : Nat) (s : State) : State :=
  s.setDiu { s.diu with histories := s.diu.histories.filter (fun h => h.index != i) }

/-- A member's histories. -/
def history? (s : State) (i : Nat) : Option History := s.diu.histories.find? (fun h => h.index == i)

/-- The final residue estimate of a channel: the last entry's mass, 0 when there is none (R127). -/
def lastMass (l : List Nat) : Nat := l.getLast?.getD 0

/-! ## Prediction (R128 to R130) -/

/-- A forecast (R129). -/
inductive Forecast where
  | runs (n : Nat)
  | never
deriving DecidableEq, Repr

/-- The loop of R129 with `fuel` steps left of 16. -/
def forecastLoop (q limit : Nat) : Nat → Nat → Nat → Forecast
  | 0, x, n => if x ≤ limit then .runs n else .never
  | fuel + 1, x, n => if x ≤ limit then .runs n else forecastLoop q limit fuel (x * q / 65536) (n + 1)

/-- The forecast from the last mass, the previous mass and the limit (R129). -/
def forecastOf (last prev limit : Nat) : Forecast :=
  if prev = 0 then .never
  else if 65536 ≤ last * 65536 / prev then .never
  else forecastLoop (last * 65536 / prev) limit 16 last 0

/-- The forecast of a channel from its history, newest entry first: none when the channel is not predicted on, or has
one entry (R128). -/
def channelForecast (limit : Nat) (newestFirst : List Nat) : Option Forecast :=
  match newestFirst with
  | [] => none
  | last :: rest =>
    if last ≤ limit then none
    else match rest with
      | [] => none
      | prev :: _ => some (forecastOf last prev limit)

/-- The prediction from the forecasts of the two channels (R130). -/
def combine (a b : Option Forecast) : Option Forecast :=
  match a, b with
  | some .never, _ => some .never
  | _, some .never => some .never
  | some (.runs m), some (.runs n) => some (.runs (max m n))
  | some (.runs m), none => some (.runs m)
  | none, some (.runs n) => some (.runs n)
  | none, none => none

/-- The forecast of one channel of a window, none when the window does not inspect it (R128). -/
def windowForecast (p : Option ChannelParams) (x : Option ChannelWin) (volume : Nat) (history : List Nat) :
    Option Forecast :=
  match p, x with
  | some q, some _ => channelForecast (residueLimit q.limit volume) history.reverse
  | _, _ => none

/-- The prediction for the member of a window just closed (R128, R130). -/
def prediction (w : Window) (s : State) : Option Forecast :=
  match history? s w.member with
  | some h => combine (windowForecast w.paramsC w.c w.volume h.c) (windowForecast w.paramsT w.t w.volume h.t)
  | none => none

/-- The prediction cannot be met in the runs remaining (R130). -/
def hopeless (f : Option Forecast) (remaining : Nat) : Bool :=
  match f with
  | some .never => true
  | some (.runs n) => decide (remaining < n)
  | none => false

/-! ## Signature (R132) and candidates (R133) -/

/-- The signature of two peaks (R132). -/
def signatureValue (peakT peakC : Nat) : Nat := min 65535 (peakT * 256 / max 1 peakC)

/-- The signature of a window inspected on both channels, with its usability (R132). -/
def signatureOf (w : Window) : Option Signature :=
  match w.c, w.t with
  | some x, some y => some { value := signatureValue y.peak x.peak,
                             usable := decide (w.drained ≠ 0) && !x.sat && !y.sat }
  | _, _ => none

/-- Class `c` has the signature in its range. -/
def inSignature (s : State) (c sig : Nat) : Bool :=
  match class? s c with
  | some e => decide (e.sigLow ≤ sig) && decide (sig ≤ e.sigHigh)
  | none => false

/-- The detect mask of the job held: bit `c` for class `c` (R20). -/
def detectMask (s : State) : Word := (s.job.record.map JobRecord.detect).getD 0

/-- The candidate set: enabled, in the detect mask, in range (R133). -/
def candidates (s : State) (sig : Nat) : List Nat :=
  (List.range' 1 15).filter (fun c =>
    classEnabled s c && (detectMask s).getLsbD c && inSignature s c sig)

end Sys2Proof.Machine
end

