-- ==== Sys2Proof/Machine/PassOps.lean ====
section
/-! DEFINITION. The pass engine's operations (chapters 3 to 5): its phases' entries, faults, retirement, abort, the
drain turns, commit and the ends of a pass. The order of the definitions is the order in which one event can lead to
the next phase; each acts on the whole state. -/

namespace Sys2Proof.Machine

/-! ## The pass result (R106, R107) -/

/-- A result entry takes its place by ascending compartment index. -/
def insertResult (r : MemberResult) : List MemberResult → List MemberResult
  | [] => [r]
  | x :: xs => if r.index < x.index then r :: x :: xs else x :: insertResult r xs

/-- The member of compartment `i` leaves the member list and any drain list, its entry kept for the result (R96). -/
def Pass.depart (i : Nat) (o : MemberOutcome) (p : Pass) : Pass :=
  { p with
    members := p.members.filter (fun m => m.index != i)
    drainList := p.drainList.filter (fun j => j != i)
    departed := insertResult { index := i, outcome := o, own := ((member? p i).map (·.own)).getD 0 } p.departed }

/-- A member takes its place by ascending compartment index (R60). -/
def insertMember (m : Member) : List Member → List Member
  | [] => [m]
  | x :: xs => if m.index < x.index then m :: x :: xs else x :: insertMember m xs

/-- A member that has left stands in the pass again, its entry taken out of the result (R92, R131). -/
def Pass.rejoin (m : Member) (p : Pass) : Pass :=
  { p with members := insertMember m p.members, departed := p.departed.filter (fun r => r.index != m.index) }

/-- The pass result as it stands (R106). -/
def passResultOf (o : PassOutcome) (s : State) : PassResult where
  tag := jobTag s
  jobNumber := jobNumber s
  number := s.pass.number
  recipe := s.pass.recipe
  outcome := o
  stage := s.pass.stage
  repeats := s.pass.repeats
  members := s.pass.departed
  supply := s.pass.supplyMeter
  agent := s.pass.agentMeter
  effluent := s.pass.drainMeter
  class2 := s.pass.class2
  class3 := s.pass.class3

/-- The end of every pass: the PASS_RESULT and any CERTIFICATEs are queued, the close check made, the context and the
DIU's part cleared, the engine in NONE; a waiting release then finishes (R77, R98, R103, R107, R38). -/
def endPass (o : PassOutcome) (certs : List Notice) (s : State) : State :=
  let s1 := closeCheck (queueEvents certs (queueEvent (.passResult (passResultOf o s)) s))
  releaseCheck (endPassDiu (s1.setPass Pass.idle))

/-! ## Standing phases -/

/-- HELD is entered and the hold timer started (R84); the resume point has been set. -/
def enterHeld (s : State) : State :=
  s.setPass { s.pass with phase := .held, dest := none, runDown := none, fromSpray := false, pendingHold := false,
                          holdTimer := some ((recipeOf s.pass).holdLimit * 1000) }

/-- STARVED is entered and the starvation timer started (R83, R87). -/
def enterStarved (s : State) : State :=
  s.setPass { s.pass with phase := .starved, dest := none, runDown := none, fromSpray := false, resumeAt := none,
                          holdTimer := none, starveTimer := some ((recipeOf s.pass).starveLimit * 1000) }

/-- DRAIN_DOWN is entered: the first interval ends 250 ms from here (R101). -/
def enterDrainDown (s : State) : State :=
  s.setPass { s.pass with phase := .drainDown, dest := none, runDown := none, fromSpray := false,
                          holdTimer := none, starveTimer := none,
                          drainDown := some { left := Config.drainDownLimit, interval := Config.drainDownInterval,
                                              seen := false, quiet := 0 } }

/-- RUN_DOWN is entered with its destination (R83). -/
def enterRunDown (d : Dest) (fromSpray : Bool) (s : State) : State :=
  s.setPass { s.pass with phase := .runDown, dest := some d, runDown := some Config.runDownLimit,
                          fromSpray := fromSpray }

/-- A run-down toward HELD (R82); it ends at entry when the pump-stopped line is on (R83). -/
def runDownToHeld (fromSpray : Bool) (s : State) : State :=
  let s1 := enterRunDown .held fromSpray s
  if s1.panel.level.pumpStopped then enterHeld s1 else s1

/-- A run-down toward STARVED (R66, R86). At entry the starvation condition holds, so a run-down that ends at entry
ends in STARVED. -/
def runDownToStarved (s : State) : State :=
  let s1 := enterRunDown .starved true (s.setPass { s.pass with resumeAt := some .spray })
  if s1.panel.level.pumpStopped then enterStarved s1 else s1

/-- A run-down toward DRAIN_DOWN (R99). No SPRAY is under way after an abort (R65), so its pulses count into no spray
record, whatever phase it was entered from (R83; log 38). -/
def runDownToDrainDown (s : State) : State :=
  let s1 := enterRunDown .drainDown false s
  if s1.panel.level.pumpStopped then enterDrainDown s1 else s1

/-- The steady flag is cleared and its timer stopped (R160). -/
def clearSteady (s : State) : State := s.setShare { s.share with steady := none, steadyFlag := false }

/-! ## Abort (R99, R100) -/

/-- A FLUSH is under way, or interrupted to be taken up again (R64). -/
def inFlush (p : Pass) : Bool := decide (p.phase = .flush) || decide (p.resumeAt = some .flush)

/-- A FLUSH that is left early clears its flush record; a baseline already formed is held (R114). -/
def leaveFlush (s : State) : State := if inFlush s.pass then s.setDiu s.diu.clearFlushRecord else s

/-- A member that has left at its retirement in this ms stands in the pass again, retiring, its compartment WASHING
(R95), to receive its outcome at the end of drain-down (R92, R131). -/
def takeBackOne (x : Left) (s : State) : State :=
  updCompartment x.member.index (fun c => { c with state := .washing, keyMark := x.mark })
    (s.setPass (s.pass.rejoin x.member))

/-- An abort finds the members that have retired at the same event still retiring (R92, R131; log 37). -/
def takeBack (s : State) : State := s.pass.late.left.foldl (fun s x => takeBackOne x s) s

/-- What every abort does at the event that takes it (R100): the code is set, the pending HOLD, resume point, drain
list, passed marks and signatures are dropped, the histories and window discarded, a FLUSH's record cleared (R114), the
steady flag cleared, BAY_STATUS refreshed; the spray record ends with its SPRAY (R61, R65; log 38), so that pulses of
the run-down that follows count in the tallies and pass meters alone; the faults that may still come in this ms are
noted (log 34). -/
def takeAbort (code : Code) (s : State) : State :=
  let s1 := (leaveFlush s).setPass { s.pass with
    abortCode := some code, pendingHold := false, resumeAt := none, nextStep := none, drainList := [],
    draining := none, spray := none, holdTimer := none, starveTimer := none,
    members := s.pass.members.map (fun m => { m with passed := false, signature := none })
    late := lateOfAbort code s }
  askStatus (clearSteady (s1.setDiu { s1.diu with window := none, histories := [] }))

/-- The abort's way to DRAIN_DOWN, by the phase it is taken in (R99). -/
def abortPass (code : Code) (s : State) : State :=
  if aborting s.pass then s
  else
    let s1 := takeAbort code (takeBack s)
    match s.pass.phase with
    | .flush => runDownToDrainDown s1
    | .spray => runDownToDrainDown s1
    | .dry => runDownToDrainDown s1
    | .runDown => s1.setPass { s1.pass with dest := some .drainDown }
    | .drain => enterDrainDown s1
    | .held => enterDrainDown s1
    | .starved => enterDrainDown s1
    | .none => s
    | .gathering => s
    | .drainDown => s

/-! ## Retirement (R95, R96) -/

/-- A member's window is the open one. -/
def ownWindowOpen (i : Nat) (s : State) : Bool := ((s.diu.window.map (·.member == i)).getD false)

/-- A retiring member leaves (R96): off the lists, the request of its code's outcome applied, its histories
discarded. The request of the last member to leave travels with the pass result (R98). -/
def leave (i : Nat) (code : Code) (s : State) : State :=
  match member? s.pass i with
  | none => s
  | some m =>
    let s1 := dropHistory i (requestOutcome code m (s.setPass (s.pass.depart i (.retired code))))
    if s1.pass.members = [] then s1 else closeCheck s1

/-- A retiring member leaves at once when it has had its drain turn for the water it received: at the end of its own
window, or with its wetted mark clear outside DRY and with no window of its own open (R96). -/
def leavesAtOnce (atWindowEnd : Bool) (m : Member) (s : State) : Bool :=
  atWindowEnd || (!m.wetted && decide (s.pass.phase ≠ .dry) && !ownWindowOpen m.index s)

/-- A member that leaves at its retirement is noted, for an abort of the same event to find it retiring (R92, R131;
log 37). -/
def noteLeft (x : Left) (s : State) : State :=
  s.setPass (s.pass.setLate { s.pass.late with left := s.pass.late.left ++ [x] })

/-- Before a retirement takes the engine out of a phase or a window: the pass-scope faults that it watches for there
may still come in this ms (R92; log 34). -/
def keepWatch (s : State) : State := s.setPass (s.pass.setLate (lateOfPass s))

/-- A member retires (R95): retiring mark and code, passed mark cleared, its own open window uninspected (R118); it
leaves at once or waits for its drain turn (R96). A member already retiring keeps its first code, and its other line may
still come in this ms (R92, log 34). -/
def retire (atWindowEnd : Bool) (code : Code) (i : Nat) (s : State) : State :=
  match member? s.pass i with
  | none => s
  | some m =>
    if m.retiring.isSome then s
    else
      let s1 := s.setPass ((s.pass.updMember i (fun x => { x with retiring := some code, passed := false })).setLate
        (lateOfRetiring i s))
      if leavesAtOnce atWindowEnd m s then
        leave i code (noteLeft { member := { m with retiring := some code, passed := false }
                                 mark := keyMarkOf s i } s1)
      else if ownWindowOpen i s then uninspectWindow (keepWatch s1) else s1

/-! ## Pass faults (R81, R89, R92) -/

/-- A filtered member-scope fault adds to the member's own count (R81). -/
def countOwn (i : Nat) (s : State) : State :=
  s.setPass (s.pass.updMember i (fun x => { x with own := x.own + 1 }))

/-- A filtered pass-scope fault adds to the count of its class (R81). -/
def countPass (cls : Nat) (s : State) : State :=
  if cls = 2 then s.setPass { s.pass with class2 := s.pass.class2 + 1 }
  else s.setPass { s.pass with class3 := s.pass.class3 + 1 }

/-- A member-scope fault: recorded; while aborting or for a retiring member recorded only; filtered or retiring its
member (R81, R92, R102). -/
def memberFault (atWindowEnd : Bool) (k : FaultKind) (i : Nat) (s : State) : State :=
  let s1 := raiseFault k (some i) (some s.pass.stage) s
  if aborting s.pass then s1
  else if ((member? s.pass i).map (·.retiring.isSome)).getD true then s1
  else if filtered s.pass.tolerance (memberFaultClass k) then countOwn i s1
  else retire atWindowEnd k.code i s1

/-- A pass-scope fault of class `cls`: recorded; while aborting recorded only; filtered (then `onFiltered` is its own
rule's effect) or aborting the pass (R81, R92). -/
def passFault (k : FaultKind) (cls : Nat) (onFiltered : State → State) (s : State) : State :=
  let s1 := raiseFault k none (some s.pass.stage) s
  if aborting s.pass then s1
  else if filtered s.pass.tolerance cls then onFiltered (countPass cls s1)
  else abortPass k.code s1

/-- The inspection of the stage run is skipped (R64, R91): in FLUSH the records are cleared (R114), an open window
runs on uninspected (R118). -/
def skipInspection (s : State) : State :=
  let s1 := s.setPass { s.pass with skipped := true }
  if s1.pass.phase = .flush then s1.setDiu s1.diu.clearFlush else uninspectWindow s1

/-- SENSOR_ABSENT is raised, class 1 in a FINAL_RINSE run and 3 otherwise, once in a stage run (R91). -/
def raiseSensor (s : State) : State :=
  passFault .sensorAbsent (if (stageOf s.pass).kind = .finalRinse then 1 else 3) skipInspection
    (s.setPass (s.pass.setLate { s.pass.late with sensor := false }))

/-- The presence of the channels is looked at where the engine begins to watch them, at FLUSH entry and at a window's
opening (R91). -/
def sensorEntry (s : State) : State := if sensorFault s then raiseSensor s else s

/-- A change of presence is taken: an absent channel where the engine watches, or has watched until a retirement or an
abort of this ms (R91, R92; log 34). -/
def sensorCheck (s : State) : State := if sensorFault s || sensorFaultLate s then raiseSensor s else s

/-- One member-scope fault against each member listed, ascending (R90). -/
def faultEach (k : FaultKind) (l : List Nat) (s : State) : State := l.foldl (fun s i => memberFault false k i s) s

/-- HEAD_UNSEATED against every member found with its line off at a phase entry, ascending (R90). -/
def headCheck (s : State) : State := faultEach .headUnseated (unseated s) s

/-! ## Drain turns (R73, R97) -/

/-- The drain window maximum that governs this DRAIN: the stage's, or the FINAL_RINSE's when the stage is a DRY
(R97). -/
def windowMaximum (p : Pass) : Nat :=
  if (stageOf p).kind = .dry then (finalRinseOf p).windowMax else (stageOf p).windowMax

/-- The window of member `i` is inspected: the stage inspects, the run is not skipped, the member is not retiring
(R73). -/
def inspectedFor (i : Nat) (p : Pass) : Bool :=
  decide ((stageOf p).inspection ≠ .none) && !p.skipped && !((member? p i).map (·.retiring.isSome)).getD true

/-- The parameters of channel `ch` handed to the DIU with the window of member `i`: those of a channel that the recipe
does not inspect never reach the DIU (R8), and a probe window is handed none (R124). -/
def paramsFor (i : Nat) (ch : Channel) (x : ChannelParams) (p : Pass) : Option ChannelParams :=
  if inspectedFor i p && !p.probe && inspects (recipeOf p) ch then some x else none

/-- The window record for member `i` at its opening (R73, R115). -/
def windowFor (i : Nat) (s : State) : Window where
  member := i
  inspected := inspectedFor i s.pass
  c := if inspectedFor i s.pass && names (stageOf s.pass).inspection .conductivity then some freshChannel else none
  t := if inspectedFor i s.pass && names (stageOf s.pass).inspection .turbidity then some freshChannel else none
  volume := volumeOf s i
  paramsC := paramsFor i .conductivity (recipeOf s.pass).c s.pass
  paramsT := paramsFor i .turbidity (recipeOf s.pass).t s.pass
  maxSamples := 4 * windowMaximum s.pass
  sample := 0
  firstPulse := false
  zeroRun := 0
  drained := 0
  pulses := 0

/-- The first member of the drain list drains: its outlet opens with a new window, and an inspected channel found
absent raises SENSOR_ABSENT (R73, R91). -/
def openNext (s : State) : State :=
  match s.pass.drainList with
  | [] => s
  | i :: _ => sensorEntry (openRecord (windowFor i s) (s.setPass { s.pass with draining := some i }))

/-- The raw pump-stopped line as the spray pump moves it (log 5); the debounced line follows by R182. -/
def pumpPin (stopped : Bool) (s : State) : State :=
  s.setPanel { s.panel with raw := { s.panel.raw with pumpStopped := stopped } }

/-- The pump is at rest throughout DRAIN (R82), and in FLUSH and DRY (R99). -/
def pumpAtRest (s : State) : State := pumpPin true s

/-- The engine stands in DRAIN with a list; the SPRAY, hold and starvation it came from have ended, and the steady
flag with the SPRAY (R65, R160). -/
def standInDrain (l : List Nat) (s : State) : State :=
  pumpAtRest (clearSteady (s.setPass { s.pass with
    phase := .drain, drainList := l, draining := none, spray := none, resumeAt := none, nextStep := none,
    dest := none, runDown := none, fromSpray := false, holdTimer := none, starveTimer := none, flushLeft := 0,
    dryLeft := 0 }))

/-- DRAIN for the retiring members alone (R97), from a FLUSH also (R114). -/
def drainRetiring (s : State) : State := openNext (standInDrain (s.pass.members.map (·.index)) (leaveFlush s))

/-- A run-down toward HELD or STARVED turns to DRAIN (R97): it has no resume point then (R61), and a FLUSH it came from
is left (R114). -/
def turnRunDown (s : State) : State :=
  (leaveFlush s).setPass { s.pass with dest := some .drain, resumeAt := none, nextStep := none }

/-- R97: every member still in the pass is retiring, so the stage run stops for their draining. -/
def turnToRetiring (s : State) : State :=
  match s.pass.phase with
  | .flush => drainRetiring s
  | .spray => drainRetiring s
  | .dry => drainRetiring s
  | .held => drainRetiring s
  | .starved => drainRetiring s
  | .runDown => if s.pass.dest = some .drainDown then s else turnRunDown s
  | .drain => s
  | .none => s
  | .gathering => s
  | .drainDown => s

/-- After retirements outside SPRAY and STARVED: the last member gone ends the pass ALL_RETIRED (R98), a pass of
retiring members turns to draining them (R97). -/
def settleRetired (s : State) : State :=
  if formed s.pass ∧ aborting s.pass = false then
    if s.pass.members = [] then endPass .allRetired [] s
    else if allRetiring s.pass then turnToRetiring (keepWatch s) else s
  else s

/-! ## FLUSH and DRY entry (R64, R76) -/

/-- The findings at FLUSH entry or at its taking up: an absent channel (R91) and heads off (R90), in either order when
both are there (R92, log 15). Both are taken before what the retirements lead to (R97, R98), so an abort finds the
members that the heads have retired still retiring (R92). -/
def flushFindings (s : State) : State :=
  settleRetired (eitherOrder (sensorFault s && !(unseated s).isEmpty) sensorEntry headCheck s)

/-- FLUSH of a stage run is entered (R64, R113): a FINAL_RINSE run raises the repeat count (R62). -/
def enterFlush (s : State) : State :=
  let p := s.pass
  let s1 := s.setPass { p with
    phase := .flush, flushLeft := Config.flushTime, skipped := false, spray := none, resumeAt := none,
    nextStep := none, holdTimer := none, draining := none, drainList := [],
    repeats := if (stageOf p).kind = .finalRinse then p.repeats + 1 else p.repeats }
  recordFlush (flushFindings (sampleLoops (startFlush (stageOf p).inspection (pumpAtRest s1))))

/-- The same FLUSH is taken up again from HELD (R64, R85, R114). -/
def resumeFlush (s : State) : State :=
  let s1 := s.setPass { s.pass with phase := .flush, resumeAt := none, holdTimer := none }
  recordFlush (flushFindings (sampleLoops (pumpAtRest s1)))

/-- DRY is entered (R76). -/
def enterDry (s : State) : State :=
  pumpAtRest (s.setPass { s.pass with
    phase := .dry, dryLeft := (stageOf s.pass).timeLimit * 1000, spray := none, resumeAt := none, nextStep := none,
    holdTimer := none, draining := none, drainList := [], skipped := false })

/-- The first phase of the current stage (R62). -/
def enterStage (s : State) : State := if (stageOf s.pass).kind = .dry then enterDry s else enterFlush s

/-! ## Commit (R77, R78) -/

/-- The grade of a member (R78). -/
def gradeOf (p : Pass) (own : Nat) : Grade :=
  if 0 < p.class2 then .c else if p.class3 + own = 0 then .a else .b

/-- The certificate of a member (R77). -/
def certificateFor (m : Member) (s : State) : Certificate where
  passNumber := s.pass.number
  recipe := s.pass.recipe
  fitFor := ((compartment? s m.index).map (·.nextClass)).getD 0
  grade := gradeOf s.pass m.own
  residueC := if inspects (recipeOf s.pass) .conductivity then
      some (lastMass (((history? s m.index).map (·.c)).getD [])) else none
  residueT := if inspects (recipeOf s.pass) .turbidity then
      some (lastMass (((history? s m.index).map (·.t)).getD [])) else none
  repeatsUsed := s.pass.repeats
  filteredFaults := s.pass.class2 + s.pass.class3 + m.own
  commitTime := s.job.clock

/-- The CERTIFICATE notice of a member (R28). -/
def certificateNotice (m : Member) (s : State) : Notice :=
  .certificate (jobTag s) (jobNumber s) m.index (certificateFor m s) (groupOf s (certificateFor m s).fitFor)

/-- COMMIT of one member (R30, R77). -/
def commitMember (m : Member) (s : State) : State :=
  requestCommit m.index (certificateFor m s) (s.setPass (s.pass.depart m.index (.certified (gradeOf s.pass m.own))))

/-- The retiring members leave, ascending (R77). -/
def retiringLeave (s : State) : State :=
  s.pass.members.foldl (fun s m =>
    match m.retiring with
    | some code => leave m.index code s
    | none => s) s

/-- The pass commits (R77): retiring members leave first; with none passed it ends ALL_RETIRED. -/
def commitPass (s : State) : State :=
  let s1 := retiringLeave s
  if s1.pass.members = [] then endPass .allRetired [] s1
  else
    let certs := s1.pass.members.map (fun m => certificateNotice m s1)
    endPass .complete certs (s1.pass.members.foldl (fun s m => commitMember m s) s1)

/-! ## The end of a stage run (R75, R76, R80) -/

/-- The step decided is begun (R62, R85). -/
def beginStep (n : NextStep) (s : State) : State :=
  match n with
  | .firstStage => enterStage s
  | .again => enterFlush s
  | .following => enterStage (s.setPass { s.pass with stage := s.pass.stage + 1 })

/-- A further stage run is the next step: begun, or left to RESUME when a HOLD is pending (R75). -/
def goOn (n : NextStep) (s : State) : State :=
  if s.pass.pendingHold then enterHeld (s.setPass { s.pass with resumeAt := some .next, nextStep := some n })
  else beginStep n s

/-- The following stage, or the commit after the last (R75, R76). -/
def advanceOrCommit (s : State) : State :=
  if s.pass.stage < (recipeOf s.pass).stages.length then goOn .following s else commitPass s

/-- The unpassed members retire RESIDUE_PERSISTS, ascending, each leaving at once (R75). -/
def retireUnpassed (s : State) : State :=
  s.pass.members.foldl (fun s m => if m.passed then s else retire true .residuePersists m.index s) s

/-- The end of a probe's stage run (R80, R134): identified, or retired CLASS_UNRESOLVED, or SENSOR_ABSENT when the
inspection was skipped. -/
def decideProbe (m : Member) (s : State) : State :=
  match m.signature with
  | none => endPass .allRetired [] (retire true .sensorAbsent m.index s)
  | some g =>
    match (if g.usable then candidates s g.value else []) with
    | [c] => endPass .complete [] (requestIdentify m.index c
        (s.setPass (s.pass.depart m.index (.identified c))))
    | _ => endPass .allRetired [] (retire true .classUnresolved m.index s)

/-- The last window of a DRAIN has ended with members remaining (R75). -/
def endStageRun (s : State) : State :=
  match s.pass.probe, s.pass.members with
  | true, m :: _ => decideProbe m s
  | _, _ =>
    if (stageOf s.pass).kind ≠ .finalRinse then advanceOrCommit s
    else if s.pass.members.all (·.passed) then advanceOrCommit s
    else if s.pass.repeats < (stageOf s.pass).repeatLimit then goOn .again s
    else
      let s1 := retireUnpassed s
      if s1.pass.members = [] then endPass .allRetired [] s1 else advanceOrCommit s1

/-! ## DRAIN entry (R73) -/

/-- DRAIN goes on with its list, or the stage run ends when the list is empty. -/
def drainOn (s : State) : State :=
  match s.pass.drainList with
  | [] => endStageRun s
  | _ :: _ => openNext s

/-- After the findings of a DRAIN entry: an abort has left DRAIN, the last member gone ends the pass (R98). -/
def drainOnOrEnd (s : State) : State :=
  if s.pass.phase ≠ .drain then s
  else if s.pass.members = [] then endPass .allRetired [] s
  else drainOn s

/-- The window next to open is an inspected one, a channel it inspects is absent, and the pass is not aborting: its
opening raises SENSOR_ABSENT (R73, R91). -/
def opensOnAbsent (s : State) : Bool :=
  namedAbsent s && !aborting s.pass && (s.pass.drainList.head?.map (fun i => inspectedFor i s.pass)).getD false

/-- The findings at DRAIN entry or at its taking up: heads off (R90), and the channel that the opening of the first
window finds absent (R91), in either order when both are there (R92; log 15, 36). -/
def drainFindings (s : State) : State :=
  if opensOnAbsent s && !(unseated s).isEmpty then eitherOrder true raiseSensor headCheck s else headCheck s

/-- DRAIN is entered at the end of a SPRAY: every member that is not passed is on the list (R68, R73). -/
def enterDrain (s : State) : State :=
  let l := (s.pass.members.filter (fun m => !m.passed)).map (·.index)
  drainOnOrEnd (drainFindings (standInDrain l s))

/-- DRAIN is taken up again from HELD (R85). -/
def resumeDrain (s : State) : State :=
  drainOnOrEnd (drainFindings (s.setPass { s.pass with phase := .drain, resumeAt := none, holdTimer := none }))

/-! ## SPRAY (R66 to R72) -/

/-- What retirements, or a spray that stands at its volume, lead to in any phase (R68, R97, R98). A fault that could
still come in the SPRAY or FLUSH they end may come in this ms yet (R92; log 34). -/
def settle (s : State) : State :=
  if formed s.pass ∧ aborting s.pass = false then
    if s.pass.members = [] then endPass .allRetired [] s
    else if allRetiring s.pass then turnToRetiring (keepWatch s)
    else match s.pass.phase with
      | .spray => if volumeReached s.pass then enterDrain (keepWatch s) else s
      | .starved => if volumeReached s.pass then enterDrain s else s
      | _ => s
  else s

/-- The spraying members receive water (R96). -/
def wetSpraying (p : Pass) : Pass :=
  { p with members := p.members.map (fun m =>
      if !m.passed && m.retiring.isNone then { m with wetted := true } else m) }

/-- The findings at SPRAY entry or at its taking up: heads off and probes wet as they stand at the entry, in either
order (R90, log 15). A member found by both keeps the code of the first, the second is recorded only (R92). -/
def sprayFindings (s : State) : State :=
  eitherOrder (!(unseated s).isEmpty && !(flooded s).isEmpty) (faultEach .headUnseated (unseated s))
    (faultEach .overflow (flooded s)) s

/-- The pump is started in SPRAY, from FLUSH or at a taking up (R66): the spraying members' heads are open (R96), the
pump-stopped pin goes off (log 5), the lines are looked at (R90; log 14). With no spraying member left (passed ones
alone) the target is 0, so the SPRAY ends at its entry (log 35). -/
def runSpray (s : State) : State :=
  let s1 := s.setPass { wetSpraying s.pass with
    phase := .spray, dest := none, runDown := none, fromSpray := false, resumeAt := none, holdTimer := none,
    starveTimer := none }
  settle (sprayFindings (pumpPin false s1))

/-- The empty spray record (R66). -/
def freshSpray : SprayRecord where
  supply := 0
  agent := 0
  timeMs := 0
  lowMs := 0
  tempRaised := false

/-- A FINAL_RINSE SPRAY begins: the steady flag is set and its timer started (R160). -/
def setSteady (s : State) : State :=
  s.setShare { s.share with steady := some Config.steadyTime, steadyFlag := true }

/-- SPRAY is entered from FLUSH (R66). -/
def enterSpray (s : State) : State :=
  let s1 := s.setPass { s.pass with flushLeft := 0, spray := some freshSpray }
  let s2 := if (stageOf s.pass).kind = .finalRinse then setSteady s1 else s1
  if starvation s2 then runDownToStarved s2 else runSpray s2

/-- The end of a run-down (R83): the destination is entered. A SPRAY that is complete goes to DRAIN (R68), one whose
resumption condition holds is taken up (R87). -/
def endRunDown (s : State) : State :=
  match s.pass.dest with
  | some .held => enterHeld s
  | some .starved =>
    if volumeReached s.pass then enterDrain s
    else if resumption s then runSpray s else enterStarved s
  | some .drain => drainRetiring s
  | some .drainDown => enterDrainDown s
  | none => s

/-- RESUME into SPRAY (R85, R68). -/
def resumeSpray (s : State) : State :=
  if volumeReached s.pass then enterDrain s
  else if starvation s then enterStarved s else runSpray s

/-! ## The end of a drain window (R74, R122 to R124, R130, R137) -/

/-- The member's verify-pending mark is cleared. -/
def clearVerify (i : Nat) (s : State) : State :=
  s.setPass (s.pass.updMember i (fun m => { m with verify := false }))

/-- The check of the declared class (R137): a usable signature outside the range raises CLASS_MISMATCH. -/
def verifyClass (i : Nat) (w : Window) (s : State) : State :=
  let s1 := clearVerify i s
  match signatureOf w with
  | none => s1
  | some g =>
    if g.usable && !inSignature s (((compartment? s i).map (·.lastClass)).getD 0) g.value then
      memberFault true .classMismatch i s1
    else s1

/-- The verdict of a FINAL_RINSE window (R74): CLEAR passes the member, any other is predicted on, and the
member may retire RESIDUE_PERSISTS at its own window's end (R130). -/
def finalVerdict (i : Nat) (w : Window) (v : Verdict) (s : State) : State :=
  if v = .clear then s.setPass (s.pass.updMember i (fun m => { m with passed := true }))
  else if hopeless (prediction w s) ((stageOf s.pass).repeatLimit - s.pass.repeats) then
    retire true .residuePersists i s
  else s

/-- What the engine does with the report of a window of a member that is not retiring (R74, R124, R137). -/
def takeVerdict (i : Nat) (m : Member) (w : Window) (s : State) : State :=
  if w.inspected then
    match (stageOf s.pass).kind with
    | .finalRinse =>
      match memberVerdict w with
      | some v => finalVerdict i w v s
      | none => s
    | .preRinse =>
      if s.pass.probe then s.setPass (s.pass.updMember i (fun x => { x with signature := signatureOf w }))
      else if m.verify && decide ((stageOf s.pass).inspection = .both) then verifyClass i w s
      else s
    | .wash => s
    | .rinse => s
    | .dry => s
  else s

/-- DRAIN_SLOW of a window that did not end DRAINED (R122, R123). -/
def slowCheck (i : Nat) (e : EndCause) (s : State) : State :=
  if e = .drained then s else memberFault true .drainSlow i s

/-- The report of a window is taken (R92, R122, R123): a retiring member leaves; otherwise DRAIN_SLOW first, then the
verdict if the member is not retiring after that. -/
def takeReport (w : Window) (e : EndCause) (s : State) : State :=
  match member? s.pass w.member with
  | none => s
  | some m =>
    match m.retiring with
    | some code => leave w.member code s
    | none =>
      let s1 := slowCheck w.member e s
      match member? s1.pass w.member with
      | none => s1
      | some x => if x.retiring.isSome then s1 else takeVerdict w.member x w s1

/-- What DRAIN does after a window (R73, R75, R82, R97): the pass ends with its last member, the retiring members
drain on, the stage run ends with the list, a pending HOLD is taken, or the next window opens. -/
def afterWindow (s : State) : State :=
  if s.pass.members = [] then endPass .allRetired [] s
  else if s.pass.drainList = [] then endStageRun s
  else if s.pass.pendingHold ∧ allRetiring s.pass = false then
    enterHeld (s.setPass { s.pass with resumeAt := some .drain })
  else openNext s

/-- The outlet closes, the member's drain turn is over: off the drain list, its wetted mark cleared (R73, R96). -/
def endTurn (i : Nat) (s : State) : State :=
  s.setPass { s.pass.updMember i (fun m => { m with wetted := false }) with
    draining := none, drainList := s.pass.drainList.filter (fun j => j != i) }

/-- A window ends with a cause: the DIU closes its record and reports, the engine takes the report (R122, R123). -/
def endWindow (w : Window) (e : EndCause) (s : State) : State :=
  afterWindow (takeReport w e (endTurn w.member (closeRecord w s)))

/-! ## Drain-down (R103) -/

/-- The request and the result entry of a member at the end of drain-down (R103, R106). -/
def drainDownMember (abort : Code) (m : Member) (s : State) : State :=
  if abort = .jobReleased then requestWithdraw m.index (s.setPass (s.pass.depart m.index .aborted))
  else match m.retiring with
    | some code => requestOutcome code m (s.setPass (s.pass.depart m.index (.retired code)))
    | none => requestOutcome abort m (s.setPass (s.pass.depart m.index .aborted))

/-- The end of drain-down (R103). -/
def endDrainDown (s : State) : State :=
  match s.pass.abortCode with
  | none => s
  | some code => endPass (.aborted code) [] (s.pass.members.foldl (fun s m => drainDownMember code m s) s)

/-! ## Batches (chapter 3) -/

/-- A batch entry takes its place by ascending compartment index (R42, R50). -/
def insertBatch (b : BatchMember) : List BatchMember → List BatchMember
  | [] => [b]
  | x :: xs => if b.index < x.index then b :: x :: xs else x :: insertBatch b xs

/-- An admitted compartment joins the batch (R49, R50). -/
def joinBatch (c : Compartment) (mark : KeyMark) (recipe : Nat) (s : State) : State :=
  let p := s.pass
  requestAdmission c.index mark (s.setPass { p with
    batch := insertBatch { index := c.index, prior := c.state } p.batch
    batchRecipe := if p.batch = [] then some recipe else p.batchRecipe
    probe := if p.batch = [] then decide (recipe = 0) else p.probe })

/-- A compartment is offered to the batch (R45). -/
def offer (i : Nat) (s : State) : State :=
  match compartment? s i with
  | none => s
  | some c =>
    match admission s c with
    | .admitted mark recipe => joinBatch c mark recipe s
    | .skipped => skipKeyed s
    | .refused r => refuse r s

/-- The compartment offered would be admitted (R51). -/
def wouldJoin (i : Nat) (s : State) : Bool :=
  match compartment? s i with
  | none => false
  | some c =>
    match admission s c with
    | .admitted _ _ => true
    | .skipped => false
    | .refused _ => false

/-- A batch is cancelled (R54): every member returned in ascending order, with the close check after each, the engine
in NONE. -/
def cancelBatch (s : State) : State :=
  (s.pass.batch.foldl (fun s b => requestReturnChecked b s) (s.setPass { s.pass with window := none })).setPass
    Pass.idle

/-- One member leaves the batch (R49, R56, R57): an emptied batch loses its recipe and probe mark. The close check
follows the RETURN (R32). -/
def dropFromBatch (b : BatchMember) (s : State) : State :=
  let left := s.pass.batch.filter (fun x => x.index != b.index)
  requestReturnChecked b (s.setPass { s.pass with
    batch := left
    batchRecipe := if left = [] then none else s.pass.batchRecipe
    probe := if left = [] then false else s.pass.probe })

/-- A member of the pass as it is formed (R59, R60, R136). -/
def formMember (s : State) (b : BatchMember) : Member where
  index := b.index
  ckState := b.prior
  ckClass := ((compartment? s b.index).map (·.lastClass)).getD 0
  passed := false
  retiring := none
  own := 0
  wetted := false
  verify := ((s.job.record.map (·.verify)).getD false) && !s.pass.probe
  signature := none

/-- The tolerance level of the job held. -/
def jobTolerance (s : State) : Nat := (s.job.record.map JobRecord.tolerance).getD 0

/-- The pass context at formation (R60), before its first phase. -/
def formedPass (s : State) : Pass :=
  let n := s.pass.batchRecipe.getD 0
  let r := (recipe? s n).getD probeRecipe
  { Pass.idle with
    number := s.job.passCounter + 1, recipe := n, recipeData := some r, probe := s.pass.probe,
    tolerance := max (jobTolerance s) r.tolerance, members := s.pass.batch.map (formMember s), stage := 1 }

/-- The pass is formed (R59, steps 1 to 4): the counter rises, checkpoints are saved, the members enter WASHING, their
histories start empty (R125). -/
def formPass (s : State) : State :=
  let p := formedPass s
  let s1 := s.setJob { s.job with passCounter := s.job.passCounter + 1 }
  let s2 := s.pass.batch.foldl (fun s b => requestWashing b.index s) s1
  let s3 := s2.setDiu { s2.diu with histories := p.members.map (fun m => { index := m.index, c := [], t := [] }) }
  s3.setPass p

end Sys2Proof.Machine
end

