-- ==== Sys2Proof/Machine/FillOps.lean ====
section
/-! DEFINITION. The fill unit's operations (chapter 8): the checks of FILL, the fill context, metering, stops and the
end of RUN_ON. -/

namespace Sys2Proof.Machine

/-! ## The context (R143, R146) -/

/-- The full target in pulses of 0.2 L (R139). -/
def fullTargetOf (litres : Nat) : Nat := 5 * litres

/-- The trim of a full target: 2 percent, within 100 to 1,000 pulses (R143). -/
def trimOf (full : Nat) : Nat := min 1000 (max 100 (full * 2 / 100))

/-- The tolerance of a full target: 5 in 1,000, at least 10 pulses (R143). -/
def toleranceOf (full : Nat) : Nat := max 10 (full * 5 / 1000)

/-- The TRIM close point: `R - e` when the remaining target is above the count at entry plus the estimate, else the
count at entry plus 1 (R146). -/
def trimClosePoint (remaining count estimate : Nat) : Nat :=
  if count + estimate < remaining then remaining - estimate else count + 1

/-- TRIM is entered: the close point set, the low valve opened, the quiet timer restarted (R144, R146). -/
def enterTrim (estimate : Nat) (x : FillCtx) : FillCtx :=
  { x with phase := .trim, close := trimClosePoint x.remaining x.count estimate, quietMs := 0 }

/-- RUN_ON is entered with an end cause: both valves shut, the quiet timer restarted (R144, R146, R149). -/
def enterRunOn (cause : FillCause) (learn : Bool) (x : FillCtx) : FillCtx :=
  { x with phase := .runOn, cause := some cause, learn := learn, quietMs := 0 }

/-- The context before its first phase (R143). -/
def freshFill (c : Compartment) : FillCtx where
  phase := .fullFlow
  compartment := c.index
  full := fullTargetOf c.fillTarget
  already := c.metered
  remaining := fullTargetOf c.fillTarget - c.metered
  trim := trimOf (fullTargetOf c.fillTarget)
  tolerance := toleranceOf (fullTargetOf c.fillTarget)
  close := 0
  count := 0
  runOn := 0
  cause := none
  learn := false
  quietMs := 0

/-- The first phase, by the first case that applies (R143). -/
def firstPhase (estimate : Nat) (x : FillCtx) : FillCtx :=
  if x.full ≤ x.already + x.tolerance then enterRunOn .target false x
  else if x.trim < x.remaining then { x with close := x.remaining - x.trim }
  else enterTrim estimate x

/-- The context of a fill that has passed its checks (R143). -/
def fillCtxFor (estimate : Nat) (c : Compartment) : FillCtx := firstPhase estimate (freshFill c)

/-- The fill unit with another context. -/
def setFillCtx (x : Option FillCtx) (s : State) : State := s.setFill { s.fill with ctx := x }

/-- A fill is set up and FILL_BEGIN sent to the job unit (R143). -/
def beginFill (c : Compartment) (s : State) : State :=
  requestFillBegin c.index (setFillCtx (some (fillCtxFor s.fill.estimate c)) s)

/-! ## The checks of FILL (R141) -/

/-- The minimum grade of the job held. -/
def minGradeOf (s : State) : Grade := (s.job.record.map JobRecord.minGrade).getD .a

/-- Checks 4 to 10 on the one selected compartment, in their order; `none` when all pass (R141). -/
def fillCheck (s : State) (c : Compartment) : Option Reason :=
  if c.state ≠ .clean ∧ c.state ≠ .partFilled then some .notClean
  else if c.fillTarget = 0 then some .notRequested
  else match c.certificate with
    | none => some .gradeLow
    | some x =>
      if x.grade.rank < (minGradeOf s).rank then some .gradeLow
      else if x.fitFor ≠ c.nextClass then some .wrongClass
      else if c.keyed = true ∧ keyIsOn s = false then some .keyed
      else if armOn s c.index = false then some .armNotSeated
      else if probeWet s c.index = true then some .probeWet
      else none

/-- A FILL outside GATHERING, by the checks in their order (R141, R142). -/
def takeFill (sel : List Nat) (s : State) : State :=
  if s.job.state ≠ .opened then refuse .noJob s
  else match sel with
    | [i] =>
      if s.fill.ctx.isSome then refuse .fillBusy s
      else match compartment? s i with
        | none => s
        | some c =>
          match fillCheck s c with
          | some r => refuse r s
          | none => beginFill c s
    | _ => refuse .selectOne s

/-! ## Stops (R147, R149) -/

/-- A stop: in FULL_FLOW or TRIM the open valve shuts, the cause is set and RUN_ON entered with the learn mark clear;
in RUN_ON, and in IDLE, nothing (R147, R149). -/
def stopFill (cause : FillCause) (s : State) : State :=
  match s.fill.ctx with
  | none => s
  | some x =>
    match x.phase with
    | .fullFlow => setFillCtx (some (enterRunOn cause false x)) s
    | .trim => setFillCtx (some (enterRunOn cause false x)) s
    | .runOn => s

/-- The compartment being filled. -/
def filling? (s : State) : Option Nat := s.fill.ctx.map (·.compartment)

/-- A valve is open: the fill is in FULL_FLOW or TRIM (R140). -/
def valveOpen (s : State) : Bool :=
  match s.fill.ctx with
  | none => false
  | some x => decide (x.phase ≠ .runOn)

/-- The probe of the compartment being filled goes wet: FILL_PROBE raised, the fill stopped unless in RUN_ON (R147,
R151). -/
def fillProbeWet (i : Nat) (s : State) : State :=
  if filling? s = some i then stopFill .fillProbe (raiseFault .fillProbe (some i) none s) else s

/-- The arm line of the compartment being filled drops (R147, R151). -/
def fillArmDropped (i : Nat) (s : State) : State :=
  if filling? s = some i then stopFill .armRemoved s else s

/-- The key goes off with a KEYED compartment being filled (R150). -/
def fillKeyOff (s : State) : State :=
  match filling? s with
  | none => s
  | some i => if ((compartment? s i).map (·.keyed)).getD false then stopFill .keyRemoved s else s

/-- The quiet timer reaches 10 s with a valve open: FILL_STALLED raised and the fill stopped (R151). -/
def fillStalled (s : State) : State :=
  match filling? s with
  | none => s
  | some i => if valveOpen s then stopFill .fillStalled (raiseFault .fillStalled (some i) none s) else s

/-! ## Metering (R144 to R146) -/

/-- `n` product pulses at a fill: counted in every phase, in RUN_ON as run-on too, the quiet timer restarted
(R144). -/
def countPulses (n : Nat) (x : FillCtx) : FillCtx :=
  { x with count := x.count + n, runOn := if x.phase = .runOn then x.runOn + n else x.runOn, quietMs := 0 }

/-- A count at its close point: FULL_FLOW gives way to TRIM (R145), TRIM to RUN_ON with cause TARGET and the learn
mark (R146). -/
def closeIfReached (estimate : Nat) (x : FillCtx) : FillCtx :=
  match x.phase with
  | .fullFlow => if x.close ≤ x.count then enterTrim estimate x else x
  | .trim => if x.close ≤ x.count then enterRunOn .target true x else x
  | .runOn => x

/-- `n` product pulses arrive (R35, R144 to R146). -/
def productPulses (n : Nat) (s : State) : State :=
  let s1 := tallyProduct n s
  match s1.fill.ctx with
  | none => s1
  | some x => setFillCtx (some (closeIfReached s1.fill.estimate (countPulses n x))) s1

/-- The pulses still missing to the close point arrive in FULL_FLOW (R145, log 1). -/
def reachFullFlowClose (s : State) : State :=
  match s.fill.ctx with
  | none => s
  | some x => if x.phase = .fullFlow then productPulses (x.close - x.count) s else s

/-- The pulses still missing to the close point arrive in TRIM (R146, log 1). -/
def reachTrimClose (s : State) : State :=
  match s.fill.ctx with
  | none => s
  | some x => if x.phase = .trim then productPulses (x.close - x.count) s else s

/-! ## The end of RUN_ON (R147, R148, R153) -/

/-- The overrun estimate after a fill (R148). -/
def learnedEstimate (estimate : Nat) (x : FillCtx) : Nat :=
  if x.learn then min Config.maxEstimate ((3 * estimate + x.runOn) / 4) else estimate

/-- The resulting state (R147). -/
def fillResult (x : FillCtx) : CState :=
  if x.cause = some .target ∧ x.full ≤ x.already + x.count + x.tolerance then .filled else .partFilled

/-- The fill record (R153). -/
def fillRecordOf (target : Nat) (x : FillCtx) : FillRecord where
  compartment := x.compartment
  target := target
  metered := x.count
  runOn := x.runOn
  cause := x.cause.getD .target
  result := fillResult x

/-- The end of RUN_ON: the estimate learned, FILL_END handed to the job unit, the unit IDLE; a waiting release then
finishes (R147, R152, R153, R38). -/
def endRunOn (s : State) : State :=
  match s.fill.ctx with
  | none => s
  | some x =>
    if x.phase = .runOn then
      let s1 := s.setFill { ctx := none, estimate := learnedEstimate s.fill.estimate x }
      releaseCheck (requestFillEnd
        (fillRecordOf (((compartment? s x.compartment).map (·.fillTarget)).getD 0) x) s1)
    else s

end Sys2Proof.Machine
end

