-- ==== Sys2Proof/Machine/ShareOps.lean ====
section
/-! DEFINITION. The share unit's operations (chapter 9): the supply record, the peer table, the division of a utility,
the announced demand, the sump pump-out and the duplicate-node lockout. -/

namespace Sys2Proof.Machine

/-! ## The order of the entries (R163) -/

/-- Entry `a` comes before entry `b`: steady flag, then priority, then pass age, then node number (R163). -/
def Peer.before (a b : Peer) : Bool :=
  if a.demand.steady ≠ b.demand.steady then a.demand.steady
  else if a.demand.priority ≠ b.demand.priority then decide (b.demand.priority < a.demand.priority)
  else if a.demand.age ≠ b.demand.age then decide (b.demand.age < a.demand.age)
  else decide (a.node < b.node)

/-- An entry takes its place in the order. -/
def insertPeer (x : Peer) : List Peer → List Peer
  | [] => [x]
  | y :: ys => if x.before y then x :: y :: ys else y :: insertPeer x ys

/-- The entries in the order of R163. -/
def sortPeers (l : List Peer) : List Peer := l.foldr insertPeer []

/-! ## Allotment (R164, R165) -/

/-- ORDERED: each (node, demand) in turn is allotted the smaller of its demand and what remains (R164). -/
def allotOrdered : Nat → List (Nat × Nat) → List (Nat × Nat)
  | _, [] => []
  | rest, (n, d) :: l => (n, min d rest) :: allotOrdered (rest - min d rest) l

/-- The sum of the second components. -/
def sumSnd (l : List (Nat × Nat)) : Nat := l.foldl (fun a x => a + x.2) 0

/-- The entries with the steady flag clear share what remains: in full when it suffices, else each the floor of its
proportion (R165). -/
def allotProportional (rest : Nat) (l : List (Nat × Nat)) : List (Nat × Nat) :=
  if sumSnd l ≤ rest then l else l.map (fun x => (x.1, rest * x.2 / sumSnd l))

/-- The allotments of one utility: `demand` picks the utility's demand of an entry (R163 to R165). -/
def allot (mode : AllocMode) (capacity : Nat) (demand : Demand → Nat) (peers : List Peer) : List (Nat × Nat) :=
  let pick (l : List Peer) := l.map (fun p => (p.node, demand p.demand))
  let order := sortPeers peers
  match mode with
  | .ordered => allotOrdered capacity (pick order)
  | .proportional =>
    let first := allotOrdered capacity (pick (order.filter (fun p => p.demand.steady)))
    first ++ allotProportional (capacity - sumSnd first) (pick (order.filter (fun p => !p.demand.steady)))

/-- A node's allotment, 0 without an entry (R163). -/
def allotmentOf (node : Nat) (l : List (Nat × Nat)) : Nat :=
  ((l.find? (fun x => x.1 == node)).map (·.2)).getD 0

/-! ## The computation (R155, R156, R163, R166) -/

/-- The supply record is FRESH: its staleness timer runs (R155). -/
def fresh (x : Share) : Bool := x.stale.isSome

/-- The capacity of the computation: the record's while FRESH and not SHUTDOWN, else 0 (R155, R156). -/
def capacityUsed (x : Share) (capacity : Nat) : Nat :=
  if fresh x = true ∧ x.plant ≠ .shutdown then capacity else 0

/-- The allocation mode of the yard parameters. -/
def modeOf (s : State) : AllocMode :=
  match s.reader.tables with
  | some t => t.yard.mode
  | none => .ordered

/-- The own share of a utility: the own entry's allotment, 0 under the lockout (R163). -/
def ownShare (s : State) (capacity : Nat) (demand : Demand → Nat) : Nat :=
  if s.share.lockout then 0
  else allotmentOf (nodeOf s) (allot (modeOf s) (capacityUsed s.share capacity) demand s.share.peers)

/-- Both shares are computed and the hot share reported to the pass engine (R163, R166). The setpoints, the starvation
condition and BAY_STATUS follow at the end of the event (Outputs, Conclude). -/
def recompute (s : State) : State :=
  let h := ownShare s s.share.hotCap Demand.hot
  s.setShare { s.share with hotShare := h, effShare := ownShare s s.share.effCap Demand.eff, hotReported := h }

/-! ## Records -/

/-- The entry of node `n` is dropped. -/
def dropPeer (n : Nat) (l : List Peer) : List Peer := l.filter (fun p => p.node != n)

/-- An entry takes its place in the table, which is kept by ascending node. -/
def insertNode (x : Peer) : List Peer → List Peer
  | [] => [x]
  | y :: ys => if x.node < y.node then x :: y :: ys else y :: insertNode x ys

/-- The entry of node `n` is made or replaced, its silence timer started (R157, R162). -/
def putPeer (n : Nat) (d : Demand) (l : List Peer) : List Peer :=
  insertNode { node := n, demand := d, silence := Config.silenceTime } (dropPeer n l)

/-- The share unit with another peer table, both shares computed afresh (R157, R158, R162). -/
def withPeers (l : List Peer) (s : State) : State := recompute (s.setShare { s.share with peers := l })

/-- A SUPPLY is taken (R155). -/
def takeSupply (hot eff : Nat) (plant : Plant) (s : State) : State :=
  recompute (s.setShare { s.share with
    hotCap := min Config.maxCapacity hot, effCap := min Config.maxCapacity eff, plant := plant,
    stale := some Config.staleTime })

/-- The staleness timer expires (R156): only a FRESH record goes STALE and raises SUPPLY_STALE. -/
def goStale (s : State) : State :=
  if fresh s.share then
    raiseFault .supplyStale none none (recompute (s.setShare { s.share with stale := none }))
  else s

/-- The duplicate-node lockout (R170). A lockout already set raises nothing more. -/
def lockOut (s : State) : State :=
  if s.share.lockout then s
  else
    let s1 := raiseFault .duplicateNode none none s
    let s2 := s1.setLine { s1.line with demandBox := none }
    withPeers (dropPeer (nodeOf s) s.share.peers) (s2.setShare { s2.share with lockout := true, refresh := none })

/-- A DEMAND that the receive filter has taken, by the node it bears (R157, R170). -/
def takeDemand (n : Nat) (d : Demand) (s : State) : State :=
  if n = nodeOf s then lockOut s
  else if n = 0 then s
  else withPeers (putPeer n d s.share.peers) s

/-- A BAY_RESTARTED, by the node it bears (R158, R170). -/
def takeRestarted (n : Nat) (s : State) : State :=
  if n = nodeOf s then lockOut s else withPeers (dropPeer n s.share.peers) s

/-- A BAY_STATUS, by the node it bears (R158, R170). -/
def takeStatus (n : Nat) (s : State) : State := if n = nodeOf s then lockOut s else s

/-- The silence timer of node `n`'s entry expires (R157). -/
def peerSilent (n : Nat) (s : State) : State :=
  if s.share.peers.any (fun p => p.node == n) then withPeers (dropPeer n s.share.peers) s else s

/-! ## The own demand (R161, R162) -/

/-- A DEMAND is placed in the mailbox and the refresh timer restarted; none while the lockout is set (R161, R170). -/
def placeDemand (s : State) : State :=
  if s.share.lockout then s
  else
    let s1 := s.setLine { s.line with demandBox := some s.share.own }
    s1.setShare { s1.share with refresh := some Config.demandRefresh }

/-- The send completion of a DEMAND (R162); not taken while the lockout is set (R170). -/
def announce (d : Demand) (s : State) : State :=
  if s.share.lockout then s
  else withPeers (putPeer (nodeOf s) d s.share.peers) (s.setShare { s.share with announced := d })

/-! ## The sump (R167, R168) -/

/-- The sump level is sampled from the input and the sample clock goes on (R167). -/
def sampleSump (s : State) : State :=
  s.setShare { s.share with level := levelOf (sumpCapacity s) s.panel.loopSump, sumpClock := Config.samplePeriod }

/-- The pump-out state after a sample (R168). -/
def pumpOutAfter (y : Yard) (level : Nat) (running : Bool) : Bool :=
  if running then decide (y.stopMark ≤ level) else decide (y.startMark < level)

/-- The pump-out state follows the sample; an out-of-service bay's stays STOPPED (R168, R15). -/
def stepPumpOut (s : State) : State :=
  match s.reader.tables with
  | none => s
  | some t =>
    if inService s then
      s.setShare { s.share with pumpOut := pumpOutAfter t.yard s.share.level s.share.pumpOut }
    else s

/-- The pump-out rate setpoint (R168). -/
def pumpRateOf (s : State) : Nat :=
  match s.reader.tables with
  | none => 0
  | some t => if s.share.pumpOut then min t.yard.maxRate s.share.effShare else 0

end Sys2Proof.Machine
end

