-- ==== Sys2Proof/Machine/LineOps.lean ====
section
/-! DEFINITION. The yard line interface's operations (chapter 10): BAY_STATUS, the frames of a notice, the filling of
the transmit buffer and what a send completion does. -/

namespace Sys2Proof.Machine

/-! ## BAY_STATUS (R175, R177) -/

/-- The members a BAY_STATUS shows: the batch while gathering (R42), the pass's with their retiring marks (R177). -/
def statusMembers (p : Pass) : List (Nat × Bool) :=
  if p.phase = .gathering then p.batch.map (fun b => (b.index, false))
  else p.members.map (fun m => (m.index, m.retiring.isSome))

/-- BAY_STATUS as its fields stand (R177). -/
def bayStatus (s : State) : BayStatus where
  node := nodeOf s
  mark := s.reader.mark
  jobState := s.job.state
  phase := s.pass.phase
  passNumber := s.pass.number
  members := statusMembers s.pass
  stage := s.pass.stage
  stageKind := if formed s.pass then some (stageOf s.pass).kind else none
  repeats := s.pass.repeats
  fillPhase := s.fill.ctx.map (·.phase)
  fillCompartment := s.fill.ctx.map (·.compartment)
  hotShare := s.share.hotShare
  effShare := s.share.effShare
  sumpPercent := sumpPercent s
  faultPresent := s.faults.record.isSome
  faultOverflow := s.faults.overflow
  gap := s.line.gap
  lastRefusal := s.panel.lastRefusal

/-- A BAY_STATUS is placed and the refresh timer restarted (R175). -/
def placeStatus (s : State) : State :=
  s.setLine { s.line with statusBox := some (bayStatus s), statusTimer := some Config.statusRefresh,
                          statusDue := false }

/-! ## Frames of a notice (R171) -/

/-- The kind of an event notice (R171). -/
def Notice.kind : Notice → Nat
  | .bayRestarted _ _ _ _ _ => 13
  | .jobResponse _ => 6
  | .fault _ => 7
  | .passResult _ => 8
  | .certificate _ _ _ _ _ => 9
  | .fillRecord _ _ _ => 10
  | .jobReport _ _ => 11

/-- The frames of an event notice beside a JOB_REPORT, which is counted as composed (table of section 10.1). -/
def Notice.frames : Notice → Nat
  | .bayRestarted _ _ _ _ _ => 1
  | .jobResponse _ => 1
  | .fault _ => 1
  | .passResult r => 3 + r.members.length
  | .certificate _ _ _ _ _ => 3
  | .fillRecord _ _ _ => 2
  | .jobReport _ _ => 3

/-- The frames of a JOB_REPORT: 3, and 2 for each compartment when the table is present (section 10.1). -/
def Report.frames (r : Report) : Nat :=
  match r.body with
  | some b => 3 + 2 * b.count
  | none => 3

/-- The kind of what is sent (R171). -/
def Sent.kind : Sent → Nat
  | .demand _ => 1
  | .event n => n.kind
  | .report _ => 11
  | .status _ => 12

/-- The number of frames of what is sent (section 10.1). -/
def Sent.frames : Sent → Nat
  | .demand _ => 1
  | .event n => n.frames
  | .report r => r.frames
  | .status _ => 3

/-- Frame `k` of what is sent, under the bay's node (R171). -/
def frameOf (x : Sent) (k : Nat) (s : State) : TxFrame where
  ident := identOf x.kind (nodeOf s) k
  content := x
  number := k

/-- The data bytes of a frame whose layout the manual gives: a DEMAND's (R173). -/
def TxFrame.data (f : TxFrame) : Option (List Byte) :=
  match f.content with
  | .demand d => some (demandBytes d)
  | .event _ => none
  | .report _ => none
  | .status _ => none

/-! ## Filling the transmit buffer (R176) -/

/-- The head notice as its first frame is handed over: a JOB_REPORT is composed whole (R40, R174). -/
def composeHead (n : Notice) (s : State) : Sent :=
  match n with
  | .jobReport number cause => .report (composeReport number cause s)
  | _ => .event n

/-- The head notice is a JOB_REPORT. -/
def Notice.isReport : Notice → Bool
  | .jobReport _ _ => true
  | _ => false

/-- A notice becomes the notice in transmission and its first frame goes to the buffer (R176). -/
def startNotice (x : Sent) (s : State) : State :=
  s.setLine { s.line with inTx := some { content := x, next := 0, total := x.frames }, tx := some (frameOf x 0 s) }

/-- The frame chosen for an empty buffer: the DEMAND, the next frame of the notice in transmission, the head of the
FIFO (a JOB_REPORT clears the event gap as it is composed), the BAY_STATUS (R174 to R176). -/
def chooseFrame (s : State) : State :=
  match s.line.demandBox with
  | some d => s.setLine { s.line with demandBox := none, tx := some (frameOf (.demand d) 0 s) }
  | none =>
    match s.line.inTx with
    | some t => s.setLine { s.line with tx := some (frameOf t.content t.next s) }
    | none =>
      match s.line.fifo with
      | n :: _ =>
        let s1 := startNotice (composeHead n s) s
        s1.setLine { s1.line with gap := if n.isReport then false else s1.line.gap }
      | [] =>
        match s.line.statusBox with
        | some b =>
          let s1 := startNotice (.status b) s
          s1.setLine { s1.line with statusBox := none }
        | none => s

/-- While the bus is ACTIVE an empty buffer is filled (R176). -/
def fillTx (s : State) : State :=
  if s.line.bus = .active ∧ s.line.tx = none then chooseFrame s else s

/-! ## Send completion (R176) -/

/-- What is left of the FIFO when a notice has gone out: an event notice leaves it, a BAY_STATUS was never in it
(R174). -/
def fifoAfter (x : Sent) (l : List Notice) : List Notice :=
  match x with
  | .event _ => l.tail
  | .report _ => l.tail
  | .demand _ => l
  | .status _ => l

/-- A frame of the notice in transmission has been sent: the next frame is noted, or the notice ends (R176). -/
def noteSent (s : State) : State :=
  match s.line.inTx with
  | none => s
  | some t =>
    if t.next + 1 < t.total then s.setLine { s.line with inTx := some { t with next := t.next + 1 } }
    else s.setLine { s.line with inTx := none, fifo := fifoAfter t.content s.line.fifo }

/-- The controller reports the frame sent: the buffer is empty, a DEMAND is reported to the share unit, any other frame
moves its notice on (R176). -/
def sendComplete (s : State) : State :=
  match s.line.tx with
  | none => s
  | some f =>
    let s1 := s.setLine { s.line with tx := none }
    match f.content with
    | .demand d => announce d s1
    | .event _ => noteSent s1
    | .report _ => noteSent s1
    | .status _ => noteSent s1

end Sys2Proof.Machine
end

