-- ==== Sys2Proof/Machine/Outputs.lean ====
section
/-! DEFINITION. The outputs as the blocks drive them (R63, R67, R101, R140, R168, R183) and the lamps (R181, R184): a
function of the state. -/

namespace Sys2Proof.Machine

/-- The heads open: of the spraying members in SPRAY, of the members not retiring in DRY (R63). -/
def headsOpen (p : Pass) : Lines8 :=
  match p.phase with
  | .spray => maskOf ((sprayingMembers p).map (·.index))
  | .dry => maskOf ((p.members.filter (fun m => m.retiring.isNone)).map (·.index))
  | .none => 0
  | .gathering => 0
  | .flush => 0
  | .drain => 0
  | .runDown => 0
  | .held => 0
  | .starved => 0
  | .drainDown => 0

/-- The outlets open: of the member draining in DRAIN (R63), of every member in DRAIN_DOWN (R101). -/
def outletsOpen (p : Pass) : Lines8 :=
  match p.phase with
  | .drain => maskOf p.draining.toList
  | .drainDown => maskOf (p.members.map (·.index))
  | .none => 0
  | .gathering => 0
  | .flush => 0
  | .spray => 0
  | .dry => 0
  | .runDown => 0
  | .held => 0
  | .starved => 0

/-- The spray flow setpoint: in SPRAY the nominal flow, capped at the hot share in a hot stage; 0 elsewhere (R67). -/
def spraySetpointOf (s : State) : Nat :=
  if s.pass.phase = .spray then
    if (stageOf s.pass).hot then min (nominalFlow s.pass) s.share.hotShare else nominalFlow s.pass
  else 0

/-- The PASS lamp (R184). -/
def passLampOf (p : Pass) : Lamp :=
  if p.phase = .none then .out else if p.phase = .gathering then .flashing else .lit

/-- The HOLD lamp (R184): lit in HELD; flashing with a HOLD pending in DRAIN or in a run-down toward DRAIN, and in a
run-down toward HELD. -/
def holdLampOf (p : Pass) : Lamp :=
  if p.phase = .held then .lit
  else if p.phase = .drain ∧ p.pendingHold = true then .flashing
  else if p.phase = .runDown ∧ p.dest = some .drain ∧ p.pendingHold = true then .flashing
  else if p.phase = .runDown ∧ p.dest = some .held then .flashing
  else .out

/-- The FAULT lamp (R181). -/
def faultLampOf (f : Faults) : Lamp :=
  match f.record with
  | none => .out
  | some _ => if f.overflow then .flashing else .lit

/-- The lamps alone, over the rest state: what an out-of-service bay shows (R15, R184). -/
def lampsOnly (s : State) : Outputs :=
  { Outputs.rest with
    refusedLamp := if s.panel.refused.isSome then .lit else .out
    faultLamp := faultLampOf s.faults }

/-- Every output of an in-service bay (R63, R67, R101, R140, R168, R183, R184). -/
def driveInService (s : State) : Outputs where
  sprayPump := decide (s.pass.phase = .spray)
  heads := headsOpen s.pass
  outlets := outletsOpen s.pass
  bypass := decide (s.pass.phase = .flush)
  agentPump := agentPumpOn s.pass
  blower := decide (s.pass.phase = .dry)
  spraySetpoint := spraySetpointOf s
  sprayMillivolt := millivolts 1600 (spraySetpointOf s)
  fillHigh := decide (s.fill.ctx.map (·.phase) = some .fullFlow)
  fillLow := decide (s.fill.ctx.map (·.phase) = some .trim)
  pumpOut := decide (0 < pumpRateOf s)
  pumpRate := pumpRateOf s
  pumpMillivolt := millivolts 600 (pumpRateOf s)
  ready := .lit
  passLamp := passLampOf s.pass
  holdLamp := holdLampOf s.pass
  fillLamp := if s.fill.ctx.isSome then .lit else .out
  refusedLamp := if s.panel.refused.isSome then .lit else .out
  faultLamp := faultLampOf s.faults

/-- The outputs for a state: rest with every lamp out before the end of start-up (R185), rest with the REFUSED and
FAULT lamps in an out-of-service bay (R15), else as the blocks drive them. -/
def drive (s : State) : Outputs :=
  if s.power = .running then
    if s.reader.mark = .inService then driveInService s else lampsOnly s
  else Outputs.rest

end Sys2Proof.Machine
end

