-- ==== Sys2Proof/Machine/Conclude.lean ====
section
/-! DEFINITION. What every event ends with, once the block that took it has acted (log 12): the starvation and
resumption conditions looked at (R169, R87), the own demand formed and a DEMAND placed (R159, R161), BAY_STATUS placed
(R175), the empty transmit buffer filled (R176), the outputs driven (R63). Each compares the state before the event
with the state the event has led to. -/

namespace Sys2Proof.Machine

/-- What the starvation and resumption conditions depend on: the hot flag and nominal flow of the stage, the hot share,
the sump level (R169, R87). -/
def starveInputs (s : State) : Bool × Bool × Nat × Nat × Nat :=
  (decide (formed s.pass), (stageOf s.pass).hot, nominalFlow s.pass, s.share.hotShare, s.share.level)

/-- The evaluation of the starvation condition (R169): its onset is reported, and acted on in SPRAY (R86); its ending
is recorded. -/
def reportStarvation (s : State) : State :=
  if starvation s then
    if s.share.starved then s
    else
      let s1 := s.setShare { s.share with starved := true }
      if s1.pass.phase = .spray then runDownToStarved s1 else s1
  else s.setShare { s.share with starved := false }

/-- In STARVED, a resumption condition that holds takes up the SPRAY (R87). -/
def lookResumption (s : State) : State :=
  if s.pass.phase = .starved ∧ resumption s = true then runSpray s else s

/-- The conditions are looked at when one of their inputs has changed in this event, in an in-service bay (R15). -/
def lookConditions (s0 s : State) : State :=
  if inService s ∧ starveInputs s ≠ starveInputs s0 then lookResumption (reportStarvation s) else s

/-- A DEMAND differs in a field whose change places one: not the pass age (R161). -/
def Demand.differs (a b : Demand) : Bool :=
  a.hot != b.hot || a.eff != b.eff || a.priority != b.priority || a.steady != b.steady

/-- The own demand is formed afresh when one of its inputs has changed, and a DEMAND placed when one of its four fields
has (R159, R161); none in an out-of-service bay (R15). -/
def formDemand (s0 s : State) : State :=
  if inService s ∧ ownDemand s ≠ ownDemand s0 then
    let s1 := s.setShare { s.share with own := ownDemand s }
    if (ownDemand s).differs (ownDemand s0) then placeDemand s1 else s1
  else s

/-- One BAY_STATUS is placed when a field it carries has changed or a refresh was asked for (R175). -/
def refreshStatus (s0 s : State) : State :=
  if s.line.statusDue = true ∨ bayStatus s ≠ bayStatus s0 then placeStatus s else s

/-- The buffer is filled; a JOB_REPORT composed by it clears the event gap, which refreshes BAY_STATUS (R174). -/
def sendNext (s : State) : State :=
  let s1 := fillTx s
  if s1.line.gap = s.line.gap then s1 else placeStatus s1

/-- The outputs take their new values at the event (R63, R140, R184). -/
def driveOutputs (s : State) : State := s.setOuts (drive s)

/-- The end of an event that has led from `s0` to `s`. -/
def conclude (s0 s : State) : State :=
  driveOutputs (sendNext (refreshStatus s0 (formDemand s0 (lookConditions s0 s))))

/-- An event taken by an effect: nothing before the end of start-up, when no event is taken (R185). -/
def event (f : State → State) (s : State) : Host.Outcome State Fault Refusal :=
  .next (if s.power = .running then conclude s (f s) else s)

end Sys2Proof.Machine
end

