-- ==== Sys2Proof/Machine/FieldCommands.lean ====
section
/-! DEFINITION. The meanings of the line changes of the sensors and of the run-down's expiry (R56, R83, R90, R102,
R151). -/

namespace Sys2Proof.Machine

/-- A line that comes in the ms in which its member has retired, and may have left, or the pass has aborted: recorded
only (R92, R102; log 34). -/
def recordLate (k : FaultKind) (i : Nat) (s : State) : State :=
  if (s.pass.late.lines k).contains i then
    raiseFault k (some i) (some s.pass.stage) (s.setPass (s.pass.setLate (s.pass.late.spend k i)))
  else s

/-- A watched fault of member `i` in a phase that takes it: against a member that is not retiring (R90), then what its
retirement leads to; the line of a member retiring, or gone at its retirement, is recorded where it comes in the same
ms (R92, log 34). -/
def watchMember (k : FaultKind) (i : Nat) (s : State) : State :=
  match member? s.pass i with
  | none => recordLate k i s
  | some m => if m.retiring.isSome then recordLate k i s else settle (memberFault false k i s)

/-- In drain-down a member's line goes to the fault record alone (R102). -/
def recordMember (k : FaultKind) (i : Nat) (s : State) : State :=
  if (member? s.pass i).isSome then raiseFault k (some i) (some s.pass.stage) s else s

/-- A head dropping in GATHERING: a batch member leaves and HEAD_UNSEATED is recorded, out of pass scope (R56). -/
def dropUnseated (i : Nat) (s : State) : State :=
  match s.pass.batch.find? (fun b => b.index == i) with
  | none => s
  | some b => raiseFault .headUnseated (some i) none (dropFromBatch b s)

/-- A head-seated line drops, by the phase (R56, R90, R102). -/
def takeHeadDrop (i : Nat) (s : State) : State :=
  match s.pass.phase with
  | .gathering => dropUnseated i s
  | .flush => watchMember .headUnseated i s
  | .spray => watchMember .headUnseated i s
  | .drain => watchMember .headUnseated i s
  | .drainDown => recordMember .headUnseated i s
  | .dry => recordLate .headUnseated i s
  | .runDown => recordLate .headUnseated i s
  | .held => recordLate .headUnseated i s
  | .starved => recordLate .headUnseated i s
  | .none => s

/-- HEAD_SEATED_DROP (R90). -/
def execHeadSeatedDrop (compartment : Nat) (s : State) : Host.Outcome State Fault Refusal :=
  event (fun s => takeHeadDrop compartment (takeLine (.head compartment) false s)) s

/-- A wet probe in SPRAY concerns a spraying member (R90), or one that has retired in this ms (R92, log 34). -/
def watchSpraying (i : Nat) (s : State) : State :=
  if (sprayingMembers s.pass).any (fun m => m.index == i) then watchMember .overflow i s
  else recordLate .overflow i s

/-- A probe goes wet, at the pass engine (R90, R102). -/
def takeProbeWet (i : Nat) (s : State) : State :=
  match s.pass.phase with
  | .spray => watchSpraying i s
  | .drainDown => recordMember .overflow i s
  | .flush => recordLate .overflow i s
  | .drain => recordLate .overflow i s
  | .dry => recordLate .overflow i s
  | .runDown => recordLate .overflow i s
  | .held => recordLate .overflow i s
  | .starved => recordLate .overflow i s
  | .none => s
  | .gathering => s

/-- HIGH_LEVEL_PROBE_WET, at the pass engine and at the fill unit (R90, R151). -/
def execHighLevelProbeWet (compartment : Nat) (s : State) : Host.Outcome State Fault Refusal :=
  event (fun s => fillProbeWet compartment (takeProbeWet compartment (takeLine (.probe compartment) true s))) s

/-- FILL_ARM_DROP (R151). -/
def execFillArmDrop (compartment : Nat) (s : State) : Host.Outcome State Fault Refusal :=
  event (fun s => fillArmDropped compartment (takeLine (.arm compartment) false s)) s

/-- A run-down under way ends (R83). -/
def endIfRunDown (s : State) : State := if s.pass.phase = .runDown then endRunDown s else s

/-- PUMP_STOPPED_ON (R83). -/
def execPumpStoppedOn (s : State) : Host.Outcome State Fault Refusal :=
  event (fun s => endIfRunDown (takeLine .pumpStopped true s)) s

/-- RUN_DOWN_TIMEOUT (R83). -/
def execRunDownTimeout (s : State) : Host.Outcome State Fault Refusal := event endIfRunDown s

end Sys2Proof.Machine
end

