-- ==== Sys2Proof/Machine/FillCommands.lean ====
section
/-! DEFINITION. The meanings of the fill unit's timer commands (R147, R151). -/

namespace Sys2Proof.Machine

/-- FILL_STALLED (R151). -/
def execFillStalled (s : State) : Host.Outcome State Fault Refusal := event fillStalled s

/-- RUN_ON_END (R147). -/
def execRunOnEnd (s : State) : Host.Outcome State Fault Refusal := event endRunOn s

end Sys2Proof.Machine
end

