-- ==== Sys2Proof/Machine/InspectionCommands.lean ====
section
/-! DEFINITION. The meanings of the drain inspection unit's commands and of the flush and spray limits they border on
(R64, R69, R71, R91, R109 to R117). -/

namespace Sys2Proof.Machine

/-! ## A sample (R109) -/

/-- The input pins of the three channels. -/
def takeLoops (loopC loopT loopTemp : Nat) (s : State) : State :=
  s.setPanel { s.panel with loopC := loopC, loopT := loopT, loopTemp := loopTemp }

/-- The spray record with the mark that TEMP_LOW has been raised (R71). -/
def raiseTempLow (r : SprayRecord) (s : State) : State :=
  passFault .tempLow 2 id (s.setPass { s.pass with spray := some { r with tempRaised := true } })

/-- The low-temperature time stands at `r`; at 60 s TEMP_LOW is raised once in a SPRAY (R71). -/
def lowTemperature (r : SprayRecord) (s : State) : State :=
  if Config.tempLowLimit ≤ r.lowMs ∧ r.tempRaised = false then raiseTempLow r s
  else s.setPass { s.pass with spray := some r }

/-- The temperature sample is below the stage's target less 5 °C (R71). -/
def belowTarget (s : State) : Bool := decide (s.diu.temp.reading + 5 < (stageOf s.pass).temperature)

/-- TEMP_LOW of a SPRAY that has ended: while the pass is aborting recorded only (R92, R102; log 32), in the ms of the
retirement that has ended the SPRAY taken as any other (R92; log 34). -/
def lateTempLow (s : State) : State :=
  passFault .tempLow 2 id (s.setPass (s.pass.setLate { s.pass.late with low := none }))

/-- A low sample in the ms in which a hot SPRAY has ended: the 60 s are reached or not (R71, R92; log 34). -/
def lateLowSample (n : Nat) (s : State) : State :=
  if Config.tempLowLimit ≤ n + Config.samplePeriod then lateTempLow s
  else s.setPass (s.pass.setLate { s.pass.late with low := some (n + Config.samplePeriod) })

/-- A temperature sample in the SPRAY of a hot stage: one below the target less 5 °C adds 250 ms (R71), also in the ms
in which an abort, or a retirement that leads to DRAIN, has ended the SPRAY (log 34). -/
def temperatureSample (s : State) : State :=
  if aborting s.pass ∨ s.pass.phase = .drain then
    match s.pass.late.low with
    | some n => if belowTarget s then lateLowSample n s else s
    | none => s
  else match s.pass.spray with
    | none => s
    | some r =>
      if s.pass.phase = .spray ∧ (stageOf s.pass).hot = true ∧ belowTarget s = true then
        lowTemperature { r with lowMs := r.lowMs + Config.samplePeriod } s
      else s

/-- The open window after a sample, and its end when an end cause applies (R116, R117); `forced` names the cause of an
end that comes without one (log 22). -/
def windowTick (forced : Option EndCause) (satC satT : Bool) (s : State) : State :=
  match s.diu.window with
  | none => s
  | some w =>
    if s.pass.phase = .drain then
      let x := windowSample satC satT s w
      match x.endCause.or forced with
      | some e => endWindow x e s
      | none => s.setDiu { s.diu with window := some x }
    else s

/-- One tick of the sample clock: the three channels conditioned, the temperature handed to the pass engine, presence
reported, the readings taken into the flush or the window record (R109; log 20). -/
def diuTick (forced : Option EndCause) (s : State) : State :=
  let satC := saturated s.diu.c.gain s.panel.loopC
  let satT := saturated s.diu.t.gain s.panel.loopT
  windowTick forced satC satT (recordFlush (sensorCheck (temperatureSample (sampleLoops s))))

/-- DIU_SAMPLE (R109). -/
def execDiuSample (loopC loopT loopTemp : Nat) (s : State) : Host.Outcome State Fault Refusal :=
  event (fun s => diuTick none (takeLoops loopC loopT loopTemp s)) s

/-! ## Presence (R112) -/

/-- One channel of the DIU changed. -/
def updLoop (ch : Channel) (f : Loop → Loop) (d : Diu) : Diu :=
  match ch with
  | .conductivity => { d with c := f d.c }
  | .turbidity => { d with t := f d.t }
  | .temperature => { d with temp := f d.temp }

/-- A present channel becomes ABSENT: its reading is 0 (R111, R112). -/
def Loop.lose (x : Loop) : Loop := if x.present then { x with present := false, run := 0, reading := 0 } else x

/-- An absent channel becomes PRESENT again, its reading 0 until the next sample (R112, log 1). -/
def Loop.regain (x : Loop) : Loop := if x.present then x else { x with present := true, run := 0 }

/-- CHANNEL_ABSENT: the pass engine takes it as SENSOR_ABSENT where R91 says (R112). -/
def execChannelAbsent (ch : Channel) (s : State) : Host.Outcome State Fault Refusal :=
  event (fun s => sensorCheck (s.setDiu (updLoop ch Loop.lose s.diu))) s

/-- CHANNEL_PRESENT: no effect beyond the readings (R112). -/
def execChannelPresent (ch : Channel) (s : State) : Host.Outcome State Fault Refusal :=
  event (fun s => s.setDiu (updLoop ch Loop.regain s.diu)) s

/-! ## FLUSH and SPRAY -/

/-- BASELINE_FORMED (R113; missing samples, log 21). -/
def execBaselineFormed (ch : Channel) (s : State) : Host.Outcome State Fault Refusal := event (formBaseline ch) s

/-- The flush time runs out: the bypass closes and SPRAY is entered (R64, R66); baselines that lack samples are
formed (log 21). -/
def endFlush (s : State) : State :=
  if s.pass.phase = .flush then enterSpray (formBaseline .turbidity (formBaseline .conductivity s)) else s

/-- FLUSH_TIME_EXPIRY (R64). -/
def execFlushTimeExpiry (s : State) : Host.Outcome State Fault Refusal := event endFlush s

/-- STAGE_TIME of a SPRAY that has ended: while the pass is aborting recorded only (R92, R102; log 32), in the ms of
the retirement that has ended the SPRAY taken as any other (R92; log 34). -/
def lateTimeLimit (s : State) : State :=
  passFault .stageTime 3 id (s.setPass (s.pass.setLate { s.pass.late with timeDue := false }))

/-- The running spray time is at the stage's limit: STAGE_TIME, class 3, which filtered ends the SPRAY (R69); out of
the SPRAY it may come late (R92, R102). -/
def reachTimeLimit (s : State) : State :=
  if aborting s.pass ∨ (s.pass.phase ≠ .spray ∧ s.pass.late.timeDue = true) then lateTimeLimit s else
  match s.pass.spray with
  | none => s
  | some r =>
    if s.pass.phase = .spray then
      passFault .stageTime 3 enterDrain (s.setPass { s.pass with
        spray := some { r with timeMs := max r.timeMs ((stageOf s.pass).timeLimit * 1000) } })
    else s

/-- STAGE_TIME (R69). -/
def execStageTime (s : State) : Host.Outcome State Fault Refusal := event reachTimeLimit s

/-- The low-temperature time reaches 60 s in a hot SPRAY with the mark clear (R71, log 1); out of the SPRAY TEMP_LOW
may come late (R92, R102). -/
def reachTempLow (s : State) : State :=
  if aborting s.pass ∨ (s.pass.phase ≠ .spray ∧ s.pass.late.low.isSome = true) then lateTempLow s else
  match s.pass.spray with
  | none => s
  | some r =>
    if s.pass.phase = .spray ∧ (stageOf s.pass).hot = true ∧ r.tempRaised = false then
      lowTemperature { r with lowMs := max r.lowMs Config.tempLowLimit } s
    else s

/-- TEMP_LOW (R71). -/
def execTempLow (s : State) : Host.Outcome State Fault Refusal := event reachTempLow s

/-! ## The end of a window (R117) -/

/-- The end cause of a window that the command ends without one: DRAINED once water has flowed, else NO_FLOW
(log 22). -/
def forcedCause (w : Window) : EndCause := if w.firstPulse || decide (0 < w.pulses) then .drained else .noFlow

/-- The window of member `i`, if it is the open one, ends at a sample of the loops as they stand (R117, log 22). -/
def endWindowOf (i : Nat) (s : State) : State :=
  match s.diu.window with
  | none => s
  | some w => if w.member = i ∧ s.pass.phase = .drain then diuTick (some (forcedCause w)) s else s

/-- DRAIN_WINDOW_END (R117). -/
def execDrainWindowEnd (compartment : Nat) (s : State) : Host.Outcome State Fault Refusal :=
  event (endWindowOf compartment) s

end Sys2Proof.Machine
end

