-- ==== Sys2Proof/Machine/LineCommands.lean ====
section
/-! DEFINITION. The meanings of the CAN controller's reports and of the BAY_STATUS refresh (R175, R176, R178). -/

namespace Sys2Proof.Machine

/-- TRANSMIT_COMPLETE: while the bus is ACTIVE, since in bus-off no frame is sent (R176, R178). -/
def execTransmitComplete (s : State) : Host.Outcome State Fault Refusal :=
  event (fun s => if s.line.bus = .active then sendComplete s else s) s

/-- The BAY_STATUS refresh timer, when it runs, expires (R175). -/
def statusExpires (s : State) : State := if s.line.statusTimer.isSome then askStatus s else s

/-- BAY_STATUS_REFRESH_EXPIRY (R175). -/
def execBayStatusRefreshExpiry (s : State) : Host.Outcome State Fault Refusal := event statusExpires s

/-- The bus goes off: the fault BUS_OFF is raised (R178). -/
def goBusOff (s : State) : State :=
  raiseFault .busOff none none (s.setLine { s.line with bus := .busOff })

/-- BUS_OFF (R178; log 26). -/
def execBusOff (s : State) : Host.Outcome State Fault Refusal := event goBusOff s

/-- The bus state is ACTIVE again; the buffer is filled when it is empty (R176, R178). -/
def recoverBus (s : State) : State := s.setLine { s.line with bus := .active }

/-- BUS_RECOVERY (R178). -/
def execBusRecovery (s : State) : Host.Outcome State Fault Refusal := event recoverBus s

end Sys2Proof.Machine
end

