-- ==== Sys2Proof/Machine/MeterCommands.lean ====
section
/-! DEFINITION. The meanings of the meters' commands (R35, R61, R68, R70, R101, R115, R144 to R146). -/

namespace Sys2Proof.Machine

/-- `n` supply pulses at the pass: its meter count (R61), and the spray record in SPRAY or a run-down from it (R68). -/
def passSupply (n : Nat) (p : Pass) : Pass :=
  if formed p then
    { p with
      supplyMeter := satAdd Config.max32 p.supplyMeter n
      spray := if countsSpray p then p.spray.map (fun r => { r with supply := r.supply + n }) else p.spray }
  else p

/-- A SPRAY that stands at its volume ends (R68). -/
def sprayEndCheck (s : State) : State :=
  if s.pass.phase = .spray ∧ volumeReached s.pass = true then enterDrain s else s

/-- `n` supply pulses arrive (R35, R61, R68). -/
def supplyPulses (n : Nat) (s : State) : State :=
  let s1 := tallySupply n s
  sprayEndCheck (s1.setPass (passSupply n s1.pass))

/-- SUPPLY_PULSE (R68). -/
def execSupplyPulse (s : State) : Host.Outcome State Fault Refusal := event (supplyPulses 1) s

/-- The supply pulses still missing to the volume target arrive in SPRAY (R68, log 1). -/
def reachVolume (s : State) : State :=
  match s.pass.spray with
  | none => s
  | some r => if s.pass.phase = .spray then supplyPulses (volumeTarget s.pass - r.supply) s else s

/-- SPRAY_VOLUME_REACHED (R68). -/
def execSprayVolumeReached (s : State) : Host.Outcome State Fault Refusal := event reachVolume s

/-- `n` agent pulses at the pass: its meter count (R61), and the spray record in SPRAY or a run-down from it (R70,
R83). -/
def passAgent (n : Nat) (p : Pass) : Pass :=
  if formed p then
    { p with
      agentMeter := satAdd Config.max32 p.agentMeter n
      spray := if countsSpray p then p.spray.map (fun r => { r with agent := r.agent + n }) else p.spray }
  else p

/-- `n` agent pulses arrive (R35, R61, R70); the agent pump follows the allowance (R63, R70). -/
def agentPulses (n : Nat) (s : State) : State :=
  let s1 := tallyAgent n s
  s1.setPass (passAgent n s1.pass)

/-- AGENT_PULSE (R70). -/
def execAgentPulse (s : State) : Host.Outcome State Fault Refusal := event (agentPulses 1) s

/-- The agent pulses still missing to the allowance arrive while the agent pump runs (R70, log 1). -/
def reachAllowance (s : State) : State :=
  match s.pass.spray with
  | none => s
  | some r =>
    if agentPumpOn s.pass then agentPulses (agentAllowance (stageOf s.pass) r.supply - r.agent) s else s

/-- AGENT_ALLOWANCE_REACHED (R70). -/
def execAgentAllowanceReached (s : State) : Host.Outcome State Fault Refusal := event reachAllowance s

/-- A drain pulse at the pass: its meter count (R61), and the interval of a drain-down, whose run of intervals without
a pulse it returns to 0 (R101). -/
def passDrain (p : Pass) : Pass :=
  if formed p then
    { p with
      drainMeter := satAdd Config.max32 p.drainMeter 1
      drainDown := p.drainDown.map (fun d => { d with seen := true, quiet := 0 }) }
  else p

/-- A drain pulse at an open window: it belongs to the sample to come (R115). -/
def windowPulse (d : Diu) : Diu := { d with window := d.window.map (fun w => { w with pulses := w.pulses + 1 }) }

/-- A drain pulse arrives (R35, R61, R101, R115). -/
def drainPulse (s : State) : State :=
  let s1 := tallyEffluent s
  let s2 := s1.setPass (passDrain s1.pass)
  s2.setDiu (windowPulse s2.diu)

/-- DRAIN_PULSE (R117). -/
def execDrainPulse (s : State) : Host.Outcome State Fault Refusal := event drainPulse s

/-- PRODUCT_PULSE (R144). -/
def execProductPulse (s : State) : Host.Outcome State Fault Refusal := event (productPulses 1) s

/-- FULL_FLOW_CLOSE_POINT (R145). -/
def execFullFlowClosePoint (s : State) : Host.Outcome State Fault Refusal := event reachFullFlowClose s

/-- TRIM_CLOSE_POINT (R146). -/
def execTrimClosePoint (s : State) : Host.Outcome State Fault Refusal := event reachTrimClose s

end Sys2Proof.Machine
end

