-- ==== Sys2Proof/Machine/OfficeCommands.lean ====
section
/-! DEFINITION. The meanings of the office's frames and of the job unit's and the lamp's timers (R16, R19 to R23, R36 to
R39, R41). -/

namespace Sys2Proof.Machine

/-- A header that the filter has taken: refused OUT_OF_SERVICE in an out-of-service bay, else by the job state (R16,
R19). -/
def takeJobHeader (f : Frame) (s : State) : State :=
  if s.reader.mark = .inService then takeHeader (readHeader f) s
  else respond (readHeader f).tag (.refused .outOfService) 0 [] s

/-- JOB_POST_HEADER (R19, R172). -/
def execJobPostHeader (f : Frame) (s : State) : Host.Outcome State Fault Refusal :=
  event (fun s => if takenFromOffice 3 8 f s then takeJobHeader f s else s) s

/-- JOB_POST_COMPARTMENT (R21, R172). -/
def execJobPostCompartment (f : Frame) (s : State) : Host.Outcome State Fault Refusal :=
  event (fun s => if takenFromOffice 4 7 f s then takeSlot (readIndex f) (readSlot f) s else s) s

/-- The assembly deadline expires in ASSEMBLING (R22). -/
def deadlineExpires (s : State) : State :=
  match s.job.state, s.job.assembly with
  | .assembling, some a => dropAssembly a (respond a.header.tag (.refused .incomplete) 0 [] s)
  | _, _ => s

/-- ASSEMBLY_DEADLINE_EXPIRY (R22). -/
def execAssemblyDeadlineExpiry (s : State) : Host.Outcome State Fault Refusal := event deadlineExpires s

/-- What a release in OPEN does to the pass engine (R37). -/
def releasePass (s : State) : State :=
  if s.pass.phase = .gathering then cancelBatch s else abortPass .jobReleased s

/-- A release in OPEN: finished at once when no pass and no fill remain, else RELEASING (R37); also where the returns of
its batch have closed the job COMPLETE (R54, R58; log 19). -/
def releaseOpen (s : State) : State :=
  let s1 := stopFill .released (releasePass s)
  if s1.pass.phase = .none ∧ s1.fill.ctx = none then finishRelease s1
  else s1.setJob { s1.job with state := .releasing }

/-- The job unit in NO_JOB, where its clock reads 0 (R34); any table is retained (R36). -/
def toNoJob (s : State) : State :=
  s.setJob { s.job with state := .noJob, assembly := none, clock := 0, clockSub := 0 }

/-- A JOB_RELEASE by the job state (R36 to R38). -/
def takeRelease (s : State) : State :=
  match s.job.state with
  | .noJob => s
  | .assembling => toNoJob s
  | .closed => toNoJob s
  | .opened => releaseOpen s
  | .releasing => s

/-- JOB_RELEASE (R37, R172). -/
def execJobRelease (f : Frame) (s : State) : Host.Outcome State Fault Refusal :=
  event (fun s => if takenFromOffice 2 0 f s then takeRelease s else s) s

/-- REPORT_RECALL (R39, R172). -/
def execReportRecall (f : Frame) (s : State) : Host.Outcome State Fault Refusal :=
  event (fun s => if takenFromOffice 5 0 f s then answerRecall s else s) s

/-- The REFUSED lamp's timer expires and the lamp goes out (R41). -/
def refusedOut (s : State) : State := s.setPanel { s.panel with refused := none }

/-- REFUSED_LAMP_EXPIRY (R41). -/
def execRefusedLampExpiry (s : State) : Host.Outcome State Fault Refusal := event refusedOut s

end Sys2Proof.Machine
end

