-- ==== Sys2Proof/Machine/PanelCommands.lean ====
section
/-! DEFINITION. The meanings of the panel's commands: the seven buttons and the key (R41 to R58, R82, R85, R104, R105,
R141, R180). -/

namespace Sys2Proof.Machine

/-- The switches that a press finds at another level than their debounced one. -/
def switchesMoved (switches : Lines8) (p : Panel) : Lines8 := switches ^^^ p.level.select

/-- A line is a select switch of the set. -/
def Line.selectIn (m : Lines8) (l : Line) : Bool :=
  match l with
  | .select i => lineOn m i
  | _ => false

/-- The select switches as they stand at a press (R41): a switch that the press finds at another level has held it, so
its raw and debounced levels take it (log 4); a switch that the press leaves as it was is debounced on (R182). -/
def takeSwitches (switches : Lines8) (s : State) : State :=
  let d := switchesMoved switches s.panel
  s.setPanel { s.panel with
    level := { s.panel.level with select := switches }
    raw := { s.panel.raw with select := (s.panel.raw.select &&& ~~~d) ||| (switches &&& d) }
    bounce := s.panel.bounce.filter (fun b => !b.line.selectIn d) }

/-- GATHERING is entered with an empty batch and the append window running (R44). -/
def enterGathering (s : State) : State :=
  s.setPass { Pass.idle with phase := .gathering, window := some Config.appendWindow }

/-- START by its checks in their order (R43, R44). -/
def takeStart (sel : List Nat) (s : State) : State :=
  if s.job.state ≠ .opened then refuse .noJob s
  else if s.pass.phase = .gathering then cancelBatch s
  else if s.pass.phase ≠ .none then refuse .passActive s
  else if 255 ≤ s.job.passCounter then refuse .passLimit s
  else if sel = [] then refuse .noneSelected s
  else if 4 < sel.length then refuse .batchFull s
  else sel.foldl (fun s i => offer i s) (enterGathering s)

/-- START (R43). -/
def execStart (switches : Lines8) (s : State) : Host.Outcome State Fault Refusal :=
  event (fun s => takeStart (selection switches s) (takeSwitches switches s)) s

/-- The append window is started afresh (R51). -/
def restartWindow (s : State) : State := s.setPass { s.pass with window := some Config.appendWindow }

/-- ADD by its checks in their order (R51). -/
def takeAdd (sel : List Nat) (s : State) : State :=
  if s.pass.phase ≠ .gathering then refuse .notGathering s
  else match sel with
    | [i] => if wouldJoin i s then restartWindow (offer i s) else offer i s
    | _ => refuse .selectOne s

/-- ADD (R51). -/
def execAdd (switches : Lines8) (s : State) : Host.Outcome State Fault Refusal :=
  event (fun s => takeAdd (selection switches s) (takeSwitches switches s)) s

/-- A phase is left for RUN_DOWN toward HELD, to be taken up again at `r` (R82). -/
def holdAt (r : ResumePoint) (fromSpray : Bool) (s : State) : State :=
  runDownToHeld fromSpray (s.setPass { s.pass with resumeAt := some r })

/-- A batch with members is formed into HELD, the first stage its next step (R53, R85). -/
def formIntoHeld (s : State) : State :=
  let s1 := formPass s
  enterHeld (s1.setPass { s1.pass with resumeAt := some .next, nextStep := some .firstStage })

/-- The pending HOLD is set (R82). -/
def pendHold (s : State) : State := s.setPass { s.pass with pendingHold := true }

/-- HOLD in a run-down, by its destination (R82). -/
def holdInRunDown (s : State) : State :=
  match s.pass.dest with
  | some .starved => s.setPass { s.pass with dest := some .held, resumeAt := some .spray }
  | some .drain => pendHold s
  | some .held => s
  | some .drainDown => s
  | none => s

/-- HOLD by the phase (R82, R53). -/
def takeHold (s : State) : State :=
  match s.pass.phase with
  | .none => s
  | .gathering => if s.pass.batch = [] then cancelBatch s else formIntoHeld s
  | .flush => holdAt .flush false s
  | .spray => holdAt .spray true s
  | .dry => holdAt .dry false s
  | .drain => pendHold s
  | .runDown => holdInRunDown s
  | .starved => enterHeld (s.setPass { s.pass with starveTimer := none, resumeAt := some .spray })
  | .held => s
  | .drainDown => s

/-- HOLD (R82). -/
def execHold (s : State) : Host.Outcome State Fault Refusal := event takeHold s

/-- DRY is taken up again for the dry time remaining (R76, R85). -/
def resumeDry (s : State) : State :=
  pumpAtRest (s.setPass { s.pass with phase := .dry, resumeAt := none, holdTimer := none })

/-- RESUME in HELD, by the resume point (R85). -/
def resumeHeld (s : State) : State :=
  match s.pass.resumeAt with
  | some .flush => resumeFlush s
  | some .spray => resumeSpray s
  | some .drain => resumeDrain s
  | some .dry => resumeDry s
  | some .next => beginStep (s.pass.nextStep.getD .following) s
  | none => s

/-- RESUME by the phase (R85, R55). -/
def takeResume (s : State) : State :=
  match s.pass.phase with
  | .gathering => cancelBatch s
  | .held => resumeHeld s
  | .none => s
  | .flush => s
  | .spray => s
  | .drain => s
  | .dry => s
  | .runDown => s
  | .starved => s
  | .drainDown => s

/-- RESUME (R85). -/
def execResume (s : State) : Host.Outcome State Fault Refusal := event takeResume s

/-- The compartment being filled is in the selection (R104). -/
def fillSelected (sel : List Nat) (s : State) : Bool :=
  match filling? s with
  | none => false
  | some i => sel.contains i

/-- ABANDON: the batch, else the fill it selects, else the pass (R55, R104). An abort in progress is left as it is. -/
def takeAbandon (sel : List Nat) (s : State) : State :=
  if s.pass.phase = .gathering then cancelBatch s
  else if fillSelected sel s then stopFill .abandoned s
  else if s.pass.phase = .none then refuse .nothingActive s
  else abortPass .abandoned s

/-- ABANDON (R104). -/
def execAbandon (switches : Lines8) (s : State) : Host.Outcome State Fault Refusal :=
  event (fun s => takeAbandon (selection switches s) (takeSwitches switches s)) s

/-- FILL: in GATHERING it cancels the batch and is not performed, else it is checked (R55, R141). -/
def takeFillPress (sel : List Nat) (s : State) : State :=
  if s.pass.phase = .gathering then cancelBatch s else takeFill sel s

/-- FILL (R141). -/
def execFill (switches : Lines8) (s : State) : Host.Outcome State Fault Refusal :=
  event (fun s => takeFillPress (selection switches s) (takeSwitches switches s)) s

/-- The fault record is emptied and its overflow flag cleared (R180). The change refreshes BAY_STATUS; with the record
empty nothing changes. -/
def clearRecord (s : State) : State := s.setFaults ⟨none, false⟩

/-- CLEAR_FAULT (R180). -/
def execClearFault (s : State) : Host.Outcome State Fault Refusal := event clearRecord s

/-- Key-off in GATHERING: the members marked KEYED leave the batch, ascending (R57). -/
def dropKeyed (s : State) : State :=
  (s.pass.batch.filter (fun b => decide (keyMarkOf s b.index = .keyed))).foldl (fun s b => dropFromBatch b s) s

/-- Key-off in a formed pass: the members marked KEYED retire KEY_REMOVED, ascending, and what that leads to (R105,
R97). While aborting it does nothing. -/
def retireKeyed (s : State) : State :=
  if aborting s.pass then s
  else settle ((s.pass.members.filter (fun m => decide (keyMarkOf s m.index = .keyed))).foldl
    (fun s m => retire false .keyRemoved m.index s) s)

/-- Key-off at the pass engine (R57, R105). -/
def passKeyOff (s : State) : State :=
  match s.pass.phase with
  | .none => s
  | .gathering => dropKeyed s
  | .flush => retireKeyed s
  | .spray => retireKeyed s
  | .drain => retireKeyed s
  | .dry => retireKeyed s
  | .runDown => retireKeyed s
  | .held => retireKeyed s
  | .starved => retireKeyed s
  | .drainDown => s

/-- KEY_OFF: one event at the pass engine and at the fill unit (R105, R150). -/
def execKeyOff (s : State) : Host.Outcome State Fault Refusal :=
  event (fun s => fillKeyOff (passKeyOff (takeLine .key false s))) s

/-- KEY_ON: the key's level alone (R57, R105). -/
def execKeyOn (s : State) : Host.Outcome State Fault Refusal := event (takeLine .key true) s

end Sys2Proof.Machine
end

