-- ==== Sys2Proof/Machine/PassTimerCommands.lean ====
section
/-! DEFINITION. The meanings of the pass engine's timer commands (R52, R76, R84, R87, R101). -/

namespace Sys2Proof.Machine

/-- The dry time runs out: the following stage or the commit (R76). -/
def endDry (s : State) : State := if s.pass.phase = .dry then advanceOrCommit s else s

/-- DRY_TIME_EXPIRY (R76). -/
def execDryTimeExpiry (s : State) : Host.Outcome State Fault Refusal := event endDry s

/-- The hold limit is reached in HELD (R84). -/
def holdTooLong (s : State) : State := if s.pass.phase = .held then abortPass .holdTooLong s else s

/-- HOLD_TIMER_EXPIRY (R84). -/
def execHoldTimerExpiry (s : State) : Host.Outcome State Fault Refusal := event holdTooLong s

/-- The starvation limit is reached in STARVED (R87). -/
def supplyLost (s : State) : State := if s.pass.phase = .starved then abortPass .supplyLost s else s

/-- STARVATION_TIMER_EXPIRY (R87). -/
def execStarvationTimerExpiry (s : State) : Host.Outcome State Fault Refusal := event supplyLost s

/-- A drain-down under way ends (R101, R103). -/
def endIfDrainDown (s : State) : State := if s.pass.phase = .drainDown then endDrainDown s else s

/-- DRAIN_DOWN_QUIET (R101). -/
def execDrainDownQuiet (s : State) : Host.Outcome State Fault Refusal := event endIfDrainDown s

/-- DRAIN_DOWN_TIMEOUT (R101). -/
def execDrainDownTimeout (s : State) : Host.Outcome State Fault Refusal := event endIfDrainDown s

/-- The append window expires: an empty batch ends with EMPTY_BATCH, a batch with members is formed into its first
stage (R52, R59). -/
def windowExpires (s : State) : State :=
  if s.pass.phase = .gathering then
    if s.pass.batch = [] then (refuse .emptyBatch s).setPass Pass.idle else enterStage (formPass s)
  else s

/-- APPEND_WINDOW_EXPIRY (R52). -/
def execAppendWindowExpiry (s : State) : Host.Outcome State Fault Refusal := event windowExpires s

end Sys2Proof.Machine
end

