-- ==== Sys2Proof/Machine/Reader.lean ====
section
/-! DEFINITION. The configuration reader (chapter 1): the CRC, the checks of the yard parameters, classes and
recipes, and what a read leaves in the reader. -/

namespace Sys2Proof.Machine

/-! ## The check value (R2) -/

/-- One bit of the CRC-16 with polynomial x^16 + x^12 + x^5 + 1. -/
def crcBit (c : Word) : Word := if c.msb then (c <<< 1) ^^^ 0x1021#16 else c <<< 1

/-- One byte, most significant bit first. -/
def crcByte (c : Word) (b : Byte) : Word :=
  crcBit (crcBit (crcBit (crcBit (crcBit (crcBit (crcBit (crcBit (c ^^^ ((b.setWidth 16) <<< 8)))))))))

/-- The CRC of a list of bytes in order: register preset to all ones, no final inversion. -/
def crc16 (bytes : List Byte) : Word := bytes.foldl crcByte 0xFFFF#16

/-! ## Yard parameters (R3) -/

/-- A value in a range, both ends included (section 1.8). -/
def inRange (lo hi n : Nat) : Bool := decide (lo ≤ n) && decide (n ≤ hi)

/-- The yard parameters pass, with the marks converted to litres; `none` when they make the image bad (R3). -/
def checkYard (y : RawYard) : Option Yard :=
  match y.mode with
  | none => none
  | some mode =>
    if inRange 2000 12000 y.capacity && decide (y.highMark ≤ 100) && decide (y.resumeMark ≤ 100)
        && decide (y.startMark ≤ 100) && decide (y.stopMark ≤ 100)
        && decide (y.stopMark < y.startMark) && decide (y.startMark < y.resumeMark)
        && decide (y.resumeMark < y.highMark) && inRange 50 600 y.maxRate then
      some { mode := mode, capacity := y.capacity, highMark := y.capacity * y.highMark / 100,
             resumeMark := y.capacity * y.resumeMark / 100, startMark := y.capacity * y.startMark / 100,
             stopMark := y.capacity * y.stopMark / 100, maxRate := y.maxRate }
    else none

/-! ## Classes (R4, R5) -/

/-- A class entry as read: not enabled when its group is no group or its range is empty (R5). -/
def readClass (c : RawClass) : ClassEntry :=
  match c.group with
  | some g => { enabled := c.enabled && decide (c.sigLow ≤ c.sigHigh), group := g,
                sigLow := c.sigLow, sigHigh := c.sigHigh }
  | none => { enabled := false, group := .general, sigLow := c.sigLow, sigHigh := c.sigHigh }

/-! ## Recipes (R9 to R11) -/

/-- The checks of one stage record, R9 and the DRY checks of R10; `none` when one fails. -/
def checkStage (g : RawStage) : Option Stage :=
  match g.kind, g.inspection with
  | some kind, some insp =>
    let common := (decide (g.temperature = 0) || inRange 30 90 g.temperature) && inRange 30 1800 g.timeLimit
      && decide (g.dose ≤ 50) && (decide (g.dose = 0) || decide (kind = .wash))
    let repeats := if kind = .finalRinse then inRange 1 9 g.repeatLimit else decide (g.repeatLimit = 1)
    let shape := if kind = .dry then
        decide (insp = .none) && decide (g.volume = 0) && decide (g.temperature = 0)
      else inRange 50 4000 g.volume && inRange 40 400 g.flow && inRange 30 240 g.windowMax
    if common && repeats && shape then
      some { kind := kind, temperature := g.temperature, volume := g.volume, flow := g.flow,
             timeLimit := g.timeLimit, dose := g.dose, inspection := insp, repeatLimit := g.repeatLimit,
             windowMax := g.windowMax }
    else none
  | _, _ => none

/-- The stages when every one of them passes. -/
def checkStages : List RawStage → Option (List Stage)
  | [] => some []
  | g :: gs =>
    match checkStage g, checkStages gs with
    | some x, some xs => some (x :: xs)
    | _, _ => none

/-- From the FINAL_RINSE on, only DRY stages follow (R10): one FINAL_RINSE, with an inspection. -/
def checkOrder : List Stage → Bool
  | [] => false
  | g :: gs =>
    if g.kind = .finalRinse then
      decide (g.inspection ≠ .none) && gs.all (fun h => decide (h.kind = .dry))
    else checkOrder gs

/-- The levels of an inspected channel (R9). -/
def checkParams (p : ChannelParams) : Bool :=
  decide (p.clear ≤ 20000) && decide (p.dirty ≤ 20000) && decide (p.clear < p.dirty)

/-- A recipe configured enabled, when it passes R9 and R10. -/
def checkRecipe (r : RawRecipe) : Option Recipe :=
  match checkStages r.stages with
  | none => none
  | some stages =>
    let x : Recipe := { stages := stages, tolerance := r.tolerance, holdLimit := r.holdLimit,
                        starveLimit := r.starveLimit, c := r.c, t := r.t }
    if inRange 1 12 stages.length && decide (r.tolerance ≤ 2) && inRange 60 1800 r.holdLimit
        && inRange 30 600 r.starveLimit && checkOrder stages
        && (!inspects x .conductivity || checkParams r.c) && (!inspects x .turbidity || checkParams r.t)
    then some x else none

/-- A recipe as the module holds it: only an enabled one that passes is used (R11). -/
def readRecipe (r : RawRecipe) : Option Recipe := if r.enabled then checkRecipe r else none

/-- The numbers, from `n` on, of the recipes disabled by check (R11). -/
def disabledFrom : Nat → List RawRecipe → List Nat
  | _, [] => []
  | n, r :: rs =>
    if r.enabled && (checkRecipe r).isNone then n :: disabledFrom (n + 1) rs else disabledFrom (n + 1) rs

/-! ## The read (R1, R2, R14) -/

/-- The tables of a good image, with the recipes disabled by check; `none` for a bad image (R2, R3). -/
def goodImage (m : ConfigMemory) : Option (Tables × List Nat) :=
  match m with
  | .silent => none
  | .short _ => none
  | .whole bytes stored fields =>
    if crc16 bytes = stored then
      match checkYard fields.yard with
      | none => none
      | some y => some ({ yard := y, classes := fields.classes.map readClass,
                          recipes := fields.recipes.map readRecipe, map := fields.map },
                        disabledFrom 1 fields.recipes)
    else none

/-- The image check value (R2): the CRC as computed, 0 when the memory does not answer. -/
def imageCheck (m : ConfigMemory) : Word :=
  match m with
  | .silent => 0
  | .short bytes => Config.shortImageCheck bytes
  | .whole bytes _ _ => crc16 bytes

/-- The out-of-service mark (R14). -/
def markOf (imageGood : Bool) (node : BitVec 4) : OosMark :=
  if imageGood then (if node = 0 then .nodeZero else .inService)
  else (if node = 0 then .badImageNodeZero else .badImage)

/-- What a completed read leaves in the configuration reader (R1 to R14). -/
def readConfiguration (r : StartUpRead) : Reader where
  memory := r.memory
  node := r.straps
  mark := markOf (goodImage r.memory).isSome r.straps
  check := imageCheck r.memory
  disabled := ((goodImage r.memory).map (·.2)).getD []
  tables := (goodImage r.memory).map (·.1)

/-- BAY_RESTARTED as the reader composes it (R17). -/
def bayRestartedNotice (d : Reader) : Notice :=
  .bayRestarted d.node.toNat d.mark d.check d.disabled d.disabled.length

end Sys2Proof.Machine
end

