-- ==== Sys2Proof/Machine/PowerCommands.lean ====
section
/-! DEFINITION. The meanings of the commands of power, reset and start-up (R185). -/

namespace Sys2Proof.Machine

/-- The module with every block's state lost and the outputs at rest (R185). The input pins, the configuration memory
and the model's own queue and counter are not the module's to lose (log 31). -/
def loseState (s : State) : State where
  power := .held
  reader := { Reader.reset with memory := s.reader.memory }
  job := JobUnit.reset
  pass := Pass.idle
  diu := Diu.reset
  fill := FillUnit.reset
  share := Share.reset
  line := YardLine.reset
  faults := ⟨none, false⟩
  panel := { Panel.reset with raw := s.panel.raw, loopC := s.panel.loopC, loopT := s.panel.loopT,
                              loopTemp := s.panel.loopTemp, loopSump := s.panel.loopSump }
  outs := Outputs.rest
  free := s.free
  pending := s.pending

/-- RESET_LINE_HELD: taken in every power condition, the read under way abandoned (R185). -/
def execResetLineHeld (s : State) : Host.Outcome State Fault Refusal := .next (loseState s)

/-- RESET_LINE_RELEASE: with the line held, the start-up begins with the configuration read (R185, log 31). -/
def execResetLineRelease (s : State) : Host.Outcome State Fault Refusal :=
  .next (if s.power = .held then s.setPower .reading else s)

/-- Steps 1 and 2 of the end of start-up: the read's result, every block at its reset state, the starting line levels
and loop currents taken (R182, R185). -/
def startedState (r : StartUpRead) (s : State) : State :=
  { loseState s with
    power := .running
    reader := readConfiguration r
    panel := { Panel.reset with level := r.lines, raw := r.lines, loopC := r.loopC, loopT := r.loopT,
                                loopTemp := r.loopTemp, loopSump := r.loopSump } }

/-- Step 3: BAY_RESTARTED is queued, BAY_STATUS asked for, and an in-service bay places its first DEMAND (R185). -/
def joinBus (s : State) : State :=
  let s1 := askStatus (queueEvent (bayRestartedNotice s.reader) s)
  if inService s1 then placeDemand s1 else s1

/-- END_OF_START_UP: taken while the read is under way (R185, log 31); READY lights with the outputs driven. -/
def execEndOfStartUp (r : StartUpRead) (s : State) : Host.Outcome State Fault Refusal :=
  .next (if s.power = .reading then conclude (startedState r s) (joinBus (startedState r s)) else s)

end Sys2Proof.Machine
end

