-- ==== Sys2Proof/Machine/ShareCommands.lean ====
section
/-! DEFINITION. The meanings of the share unit's notices, timers and samples (R155 to R158, R160, R161, R167, R170). -/

namespace Sys2Proof.Machine

/-- What an in-service share unit takes; an out-of-service one takes nothing into its records (R15). -/
def ifInService (f : State → State) (s : State) : State := if s.reader.mark = .inService then f s else s

/-- SUPPLY (R155, R172). -/
def execSupply (f : Frame) (s : State) : Host.Outcome State Fault Refusal :=
  event (fun s => if taken 0 5 f s then
    ifInService (takeSupply (wordAt f 0) (wordAt f 2) (plantOfCode (byteAt f 4))) s else s) s

/-- SUPPLY_STALE (R156). -/
def execSupplyStale (s : State) : Host.Outcome State Fault Refusal := event goStale s

/-- DEMAND (R157, R170, R172). -/
def execDemand (f : Frame) (s : State) : Host.Outcome State Fault Refusal :=
  event (fun s => if taken 1 7 f s then ifInService (takeDemand (frameNode f) (readDemand f)) s else s) s

/-- PEER_SILENCE_EXPIRY (R157). -/
def execPeerSilenceExpiry (node : Nat) (s : State) : Host.Outcome State Fault Refusal := event (peerSilent node) s

/-- BAY_RESTARTED from another station (R158, R170, R172). -/
def execBayRestarted (f : Frame) (s : State) : Host.Outcome State Fault Refusal :=
  event (fun s => if taken 13 0 f s then ifInService (takeRestarted (frameNode f)) s else s) s

/-- BAY_STATUS from another station (R158, R170, R172). -/
def execBayStatus (f : Frame) (s : State) : Host.Outcome State Fault Refusal :=
  event (fun s => if taken 12 0 f s then ifInService (takeStatus (frameNode f)) s else s) s

/-- The refresh timer, when it runs, expires and a DEMAND is placed (R161). -/
def refreshDemand (s : State) : State := if s.share.refresh.isSome then placeDemand s else s

/-- DEMAND_REFRESH_EXPIRY (R161). -/
def execDemandRefreshExpiry (s : State) : Host.Outcome State Fault Refusal := event refreshDemand s

/-- The steady timer, when it runs, expires and the steady flag is cleared (R160). -/
def steadyExpires (s : State) : State := if s.share.steady.isSome then clearSteady s else s

/-- STEADY_TIMER_EXPIRY (R160). -/
def execSteadyTimerExpiry (s : State) : Host.Outcome State Fault Refusal := event steadyExpires s

/-- The input pin of the sump level. -/
def takeSumpLoop (loopSump : Nat) (s : State) : State := s.setPanel { s.panel with loopSump := loopSump }

/-- SUMP_SAMPLE (R167, R168); the starvation and resumption conditions follow at the end of the event. -/
def execSumpSample (loopSump : Nat) (s : State) : Host.Outcome State Fault Refusal :=
  event (fun s => stepPumpOut (sampleSump (takeSumpLoop loopSump s))) s

end Sys2Proof.Machine
end

