-- ==== Sys2Proof/Machine/Dispatch.lean ====
section
/-! DEFINITION. One arm per command: its meaning. -/

namespace Sys2Proof.Machine

/-- What a command does to everything but the queue. -/
def exec (i : Instr) (s : State) : Host.Outcome State Fault Refusal :=
  match i with
  | .resetLineHeld => Sys2Proof.Machine.execResetLineHeld s
  | .resetLineRelease => Sys2Proof.Machine.execResetLineRelease s
  | .endOfStartUp r => Sys2Proof.Machine.execEndOfStartUp r s
  | .start switches => Sys2Proof.Machine.execStart switches s
  | .add switches => Sys2Proof.Machine.execAdd switches s
  | .hold => Sys2Proof.Machine.execHold s
  | .resume => Sys2Proof.Machine.execResume s
  | .abandon switches => Sys2Proof.Machine.execAbandon switches s
  | .fill switches => Sys2Proof.Machine.execFill switches s
  | .clearFault => Sys2Proof.Machine.execClearFault s
  | .keyOff => Sys2Proof.Machine.execKeyOff s
  | .keyOn => Sys2Proof.Machine.execKeyOn s
  | .headSeatedDrop compartment => Sys2Proof.Machine.execHeadSeatedDrop compartment s
  | .highLevelProbeWet compartment => Sys2Proof.Machine.execHighLevelProbeWet compartment s
  | .fillArmDrop compartment => Sys2Proof.Machine.execFillArmDrop compartment s
  | .pumpStoppedOn => Sys2Proof.Machine.execPumpStoppedOn s
  | .runDownTimeout => Sys2Proof.Machine.execRunDownTimeout s
  | .supplyPulse => Sys2Proof.Machine.execSupplyPulse s
  | .sprayVolumeReached => Sys2Proof.Machine.execSprayVolumeReached s
  | .agentPulse => Sys2Proof.Machine.execAgentPulse s
  | .agentAllowanceReached => Sys2Proof.Machine.execAgentAllowanceReached s
  | .drainPulse => Sys2Proof.Machine.execDrainPulse s
  | .productPulse => Sys2Proof.Machine.execProductPulse s
  | .fullFlowClosePoint => Sys2Proof.Machine.execFullFlowClosePoint s
  | .trimClosePoint => Sys2Proof.Machine.execTrimClosePoint s
  | .fillStalled => Sys2Proof.Machine.execFillStalled s
  | .runOnEnd => Sys2Proof.Machine.execRunOnEnd s
  | .diuSample loopC loopT loopTemp => Sys2Proof.Machine.execDiuSample loopC loopT loopTemp s
  | .channelAbsent ch => Sys2Proof.Machine.execChannelAbsent ch s
  | .channelPresent ch => Sys2Proof.Machine.execChannelPresent ch s
  | .baselineFormed ch => Sys2Proof.Machine.execBaselineFormed ch s
  | .flushTimeExpiry => Sys2Proof.Machine.execFlushTimeExpiry s
  | .stageTime => Sys2Proof.Machine.execStageTime s
  | .tempLow => Sys2Proof.Machine.execTempLow s
  | .drainWindowEnd compartment => Sys2Proof.Machine.execDrainWindowEnd compartment s
  | .dryTimeExpiry => Sys2Proof.Machine.execDryTimeExpiry s
  | .holdTimerExpiry => Sys2Proof.Machine.execHoldTimerExpiry s
  | .starvationTimerExpiry => Sys2Proof.Machine.execStarvationTimerExpiry s
  | .drainDownQuiet => Sys2Proof.Machine.execDrainDownQuiet s
  | .drainDownTimeout => Sys2Proof.Machine.execDrainDownTimeout s
  | .appendWindowExpiry => Sys2Proof.Machine.execAppendWindowExpiry s
  | .jobPostHeader f => Sys2Proof.Machine.execJobPostHeader f s
  | .jobPostCompartment f => Sys2Proof.Machine.execJobPostCompartment f s
  | .assemblyDeadlineExpiry => Sys2Proof.Machine.execAssemblyDeadlineExpiry s
  | .jobRelease f => Sys2Proof.Machine.execJobRelease f s
  | .reportRecall f => Sys2Proof.Machine.execReportRecall f s
  | .refusedLampExpiry => Sys2Proof.Machine.execRefusedLampExpiry s
  | .supply f => Sys2Proof.Machine.execSupply f s
  | .supplyStale => Sys2Proof.Machine.execSupplyStale s
  | .demand f => Sys2Proof.Machine.execDemand f s
  | .peerSilenceExpiry node => Sys2Proof.Machine.execPeerSilenceExpiry node s
  | .bayRestarted f => Sys2Proof.Machine.execBayRestarted f s
  | .bayStatus f => Sys2Proof.Machine.execBayStatus f s
  | .demandRefreshExpiry => Sys2Proof.Machine.execDemandRefreshExpiry s
  | .steadyTimerExpiry => Sys2Proof.Machine.execSteadyTimerExpiry s
  | .sumpSample loopSump => Sys2Proof.Machine.execSumpSample loopSump s
  | .transmitComplete => Sys2Proof.Machine.execTransmitComplete s
  | .bayStatusRefreshExpiry => Sys2Proof.Machine.execBayStatusRefreshExpiry s
  | .busOff => Sys2Proof.Machine.execBusOff s
  | .busRecovery => Sys2Proof.Machine.execBusRecovery s

end Sys2Proof.Machine
end

