-- ==== Sys2Proof/Machine/Clock.lean ====
section
/-! DEFINITION. The module's own clock: what happens when no command waits (log 2). Either an event that the clock or a
field line has made due is taken, or one millisecond passes (sections 1.8, R34, R52, R64, R69, R83, R88, R101, R109,
R144, R155 to R161, R167, R175, R182). -/

namespace Sys2Proof.Machine

/-! ## Field lines (R182) -/

/-- Every debounced line. The reset line is not among them: it comes as RESET_LINE_HELD and RESET_LINE_RELEASE, its
debounced change (log 39). -/
def allLines : List Line :=
  (List.range' 1 8).map Line.select ++ (List.range' 0 7).map Line.button ++ [Line.key]
  ++ (List.range' 1 8).map Line.head ++ (List.range' 1 8).map Line.probe ++ (List.range' 1 8).map Line.arm
  ++ [Line.pumpStopped]

/-- A raw line differs from its debounced state. -/
def Line.moved (l : Line) (p : Panel) : Bool := l.level p.raw != l.level p.level

/-- For how many ms a line has differed. -/
def bounceMs (l : Line) (p : Panel) : Nat := ((p.bounce.find? (fun b => decide (b.line = l))).map (·.ms)).getD 0

/-- One ms of debouncing: a line that differs counts on, one that does not starts again (R182). -/
def stepBounce (p : Panel) : Panel :=
  { p with bounce := (allLines.filter (fun l => l.moved p)).map (fun l => { line := l, ms := bounceMs l p + 1 }) }

/-- The lines that have differed for 20 ms (R182). -/
def dueLines (p : Panel) : List Line := allLines.filter (fun l => l.moved p && decide (Config.debounce ≤ bounceMs l p))

/-- The command of a button's press (section 11.1), with the switches as they stand (R41). -/
def buttonCommand (b : Nat) (switches : Lines8) : Option Instr :=
  match b with
  | 0 => some (.start switches)
  | 1 => some (.add switches)
  | 2 => some .hold
  | 3 => some .resume
  | 4 => some (.abandon switches)
  | 5 => some (.fill switches)
  | 6 => some .clearFault
  | _ => none

/-- The command a line's change to level `b` is, if it is one: a press, the key, a drop of a head or arm line, a probe
going wet, the pump-stopped line coming on (R182). -/
def lineCommand (l : Line) (b : Bool) (switches : Lines8) : Option Instr :=
  match l, b with
  | .button n, true => buttonCommand n switches
  | .key, true => some .keyOn
  | .key, false => some .keyOff
  | .head i, false => some (.headSeatedDrop i)
  | .probe i, true => some (.highLevelProbeWet i)
  | .arm i, false => some (.fillArmDrop i)
  | .pumpStopped, true => some .pumpStoppedOn
  | _, _ => none

/-- A line takes its new debounced state, and the event it is, if any, is taken (R182). -/
def lineEvent (l : Line) (s : State) : Host.Outcome State Fault Refusal :=
  let b := l.level s.panel.raw
  match lineCommand l b s.panel.level.select with
  | some c => exec c (takeLine l b s)
  | none => .next (takeLine l b s)

/-! ## Events due -/

/-- An event due: a command of the clock's, or a line's change. -/
inductive Due where
  | command (c : Instr)
  | line (l : Line)
deriving DecidableEq, Repr

/-- The command, when its condition holds. -/
def dueIf (b : Bool) (c : Instr) : List Due := if b then [.command c] else []

/-- A timer stands at 0. -/
def expired (t : Option Nat) : Bool := t == some 0

/-- The pass engine's events due. -/
def duePass (p : Pass) : List Due :=
  dueIf (decide (p.phase = .gathering) && expired p.window) .appendWindowExpiry
  ++ dueIf (decide (p.phase = .flush) && p.flushLeft == 0) .flushTimeExpiry
  ++ dueIf (timeLimitReached p || p.late.timeDue) .stageTime
  ++ dueIf (decide (p.phase = .dry) && p.dryLeft == 0) .dryTimeExpiry
  ++ dueIf (decide (p.phase = .runDown) && expired p.runDown) .runDownTimeout
  ++ dueIf (decide (p.phase = .held) && expired p.holdTimer) .holdTimerExpiry
  ++ dueIf (decide (p.phase = .starved) && expired p.starveTimer) .starvationTimerExpiry
  ++ dueIf (decide (p.phase = .drainDown)
      && (p.drainDown.map (fun d => decide (Config.quietIntervals ≤ d.quiet))).getD false) .drainDownQuiet
  ++ dueIf (decide (p.phase = .drainDown) && (p.drainDown.map (fun d => d.left == 0)).getD false) .drainDownTimeout

/-- The fill unit's events due (R144). -/
def dueFill (f : FillUnit) : List Due :=
  match f.ctx with
  | none => []
  | some x =>
    if x.phase = .runOn then dueIf (decide (Config.runOnTime ≤ x.quietMs)) .runOnEnd
    else dueIf (decide (Config.stallTime ≤ x.quietMs)) .fillStalled

/-- The share unit's events due. -/
def dueShare (x : Share) (loopSump : Nat) : List Due :=
  dueIf (x.sumpClock == 0) (.sumpSample loopSump)
  ++ dueIf (expired x.stale) .supplyStale
  ++ dueIf (expired x.refresh) .demandRefreshExpiry
  ++ dueIf (expired x.steady) .steadyTimerExpiry
  ++ (x.peers.filter (fun p => p.silence == 0)).map (fun p => .command (.peerSilenceExpiry p.node))

/-- Every event due, of every block. -/
def dueEvents (s : State) : List Due :=
  dueIf (expired s.panel.refused) .refusedLampExpiry
  ++ dueIf ((s.job.assembly.map (fun a => a.deadline == 0)).getD false) .assemblyDeadlineExpiry
  ++ duePass s.pass
  ++ dueFill s.fill
  ++ dueIf (s.diu.clock == 0) (.diuSample s.panel.loopC s.panel.loopT s.panel.loopTemp)
  ++ dueShare s.share s.panel.loopSump
  ++ dueIf (expired s.line.statusTimer) .bayStatusRefreshExpiry
  ++ (dueLines s.panel).map Due.line

/-- An event due is taken. -/
def takeDue (d : Due) (s : State) : Host.Outcome State Fault Refusal :=
  match d with
  | .command c => exec c s
  | .line l => lineEvent l s

/-! ## One millisecond -/

/-- A count of ms left. -/
def countDown (t : Option Nat) : Option Nat := t.map (· - 1)

/-- Whole seconds of a clock from its ms within the second: (seconds, ms) (R34, R88). -/
def tickSeconds (sec sub : Nat) : Nat × Nat :=
  if sub + 1 < 1000 then (sec, sub + 1) else (min Config.maxSeconds (sec + 1), 0)

/-- The job unit's ms: the clock while it runs, the assembly deadline (R34, R22). -/
def jobMs (s : State) : JobUnit :=
  let j := s.job
  let c := if jobRuns s then tickSeconds j.clock j.clockSub else (j.clock, j.clockSub)
  { j with clock := c.1, clockSub := c.2,
           assembly := j.assembly.map (fun a => { a with deadline := a.deadline - 1 }) }

/-- The drain-down's ms: at each 250 ms the interval just past is noted (R101). -/
def drainDownMs (d : DrainDown) : DrainDown :=
  if 1 < d.interval then { d with left := d.left - 1, interval := d.interval - 1 }
  else { left := d.left - 1, interval := Config.drainDownInterval, seen := false,
         quiet := if d.seen then 0 else d.quiet + 1 }

/-- The pass engine's ms: the age of a formed pass (R88), and what runs in the phase it is in; the instant that faults
shared has passed (log 34). -/
def passMs (p : Pass) : Pass :=
  let c := if formed p then tickSeconds p.age p.ageSub else (p.age, p.ageSub)
  { p with
    age := c.1
    ageSub := c.2
    window := if p.phase = .gathering then countDown p.window else p.window
    runDown := if p.phase = .runDown then countDown p.runDown else p.runDown
    flushLeft := if p.phase = .flush then p.flushLeft - 1 else p.flushLeft
    spray := if p.phase = .spray then p.spray.map (fun r => { r with timeMs := r.timeMs + 1 }) else p.spray
    dryLeft := if p.phase = .dry then p.dryLeft - 1 else p.dryLeft
    holdTimer := if p.phase = .held then countDown p.holdTimer else p.holdTimer
    starveTimer := if p.phase = .starved then countDown p.starveTimer else p.starveTimer
    drainDown := if p.phase = .drainDown then p.drainDown.map drainDownMs else p.drainDown
    late := Late.none }

/-- The share unit's ms. -/
def shareMs (x : Share) : Share :=
  { x with
    stale := countDown x.stale, refresh := countDown x.refresh, steady := countDown x.steady
    sumpClock := x.sumpClock - 1
    peers := x.peers.map (fun p => { p with silence := p.silence - 1 }) }

/-- One ms passes at every block. -/
def passOneMs (s : State) : State :=
  { s with
    job := jobMs s
    pass := passMs s.pass
    diu := { s.diu with clock := s.diu.clock - 1 }
    fill := { s.fill with ctx := s.fill.ctx.map (fun x => { x with quietMs := x.quietMs + 1 }) }
    share := shareMs s.share
    line := { s.line with statusTimer := countDown s.line.statusTimer }
    panel := stepBounce { s.panel with refused := countDown s.panel.refused } }

/-- The step of an empty queue in a module in operation: of the events due one is taken, which a free value chooses
(log 3); with none due one ms passes. -/
def idle (s : State) : Host.Outcome State Fault Refusal :=
  match dueEvents s with
  | [] => event passOneMs s
  | [d] => takeDue d s
  | d :: ds =>
    takeDue ((d :: ds).getD (Config.dueChoice s.free % (d :: ds).length) d) (s.setFree (s.free + 1))

/-- The step of an empty queue: the module's clock in operation, nothing before the end of start-up (log 2). -/
def idleStep (s : State) : Host.Outcome State Fault Refusal := if s.power = .running then idle s else .next s

end Sys2Proof.Machine
end

