-- ==== Sys2Proof/Machine/Step.lean ====
section
/-! DEFINITION. One step: the command at the front of the queue is taken, or with none waiting the module's own clock
goes on. -/

namespace Sys2Proof.Machine

/-- The state with another queue. -/
def State.withPending (s : State) (l : List Instr) : State := { s with pending := l }

/-- One step (log 2 for an empty queue). -/
def step (s : State) : Host.Outcome State Fault Refusal :=
  match s.pending with
  | c :: rest => exec c (s.withPending rest)
  | [] => idleStep s

/-- The state with the command a word spells at the front of its queue; unchanged where the word spells none. No row
of the table gives bits, so no word spells a command (log 7). -/
def State.withFetchWord (s : State) (nbits w : Nat) : State :=
  match decodeTableWord nbits w with
  | some c => s.withPending (c :: s.pending)
  | none => s

end Sys2Proof.Machine
end

