-- ==== Sys2Proof/Safety.lean ====
section
/-! DEFINITION. What holds of every state a run reaches, in the terms the statements use: the invariants of the event
FIFO, the fault record, the peer table, the estimate, the pass counter, and the outputs as the state drives them. -/

namespace Sys2Proof.Machine

/-- The event FIFO holds at most 12 notices (R174). -/
def FifoBounded (s : State) : Prop := s.line.fifo.length ≤ Config.fifoSize

/-- The overflow flag is set only while a first-fault record is held (R179). -/
def OverflowHasRecord (s : State) : Prop := s.faults.overflow = true → s.faults.record.isSome = true

/-- The peer table stands by strictly rising node, so it has never two entries for one node (R157). -/
def PeersDistinct (s : State) : Prop := s.share.peers.Pairwise (fun a b => a.node < b.node)

/-- The pass number counter is at most 255, and below 255 while a batch gathers (R33, R43). -/
def CounterBounded (s : State) : Prop :=
  s.job.passCounter ≤ 255 ∧ (s.pass.phase = .gathering → s.job.passCounter < 255)

/-- The overrun estimate lies in 0 to 250 (R139). -/
def EstimateBounded (s : State) : Prop := s.fill.estimate ≤ Config.maxEstimate

/-- The outputs are what the state drives (R63, R101, R140, R168, R184, R185). -/
def OutputsDriven (s : State) : Prop := s.outs = drive s

/-- The fill valves: never both open, and open only in FULL_FLOW or TRIM of a fill (R140). -/
def FillValvesSafe (s : State) : Prop :=
  (s.outs.fillHigh && s.outs.fillLow) = false
  ∧ (s.outs.fillHigh = true ∨ s.outs.fillLow = true → ∃ x, s.fill.ctx = some x ∧ x.phase ≠ .runOn)

/-- The wash path: outlets, bypass, spray and blower never run together (R63, R101). -/
def WashPathSafe (s : State) : Prop :=
  (s.outs.sprayPump = true → s.outs.outlets = 0 ∧ s.outs.bypass = false ∧ s.outs.blower = false)
  ∧ (s.outs.bypass = true → s.outs.outlets = 0 ∧ s.outs.heads = 0)
  ∧ (s.outs.outlets ≠ 0 → s.outs.heads = 0)

/-- The draw on the yard: the pump-out rate within the effluent share (R168), the spray of a hot stage within the hot
share (R67). -/
def DrawWithinShares (s : State) : Prop :=
  s.outs.pumpRate ≤ s.share.effShare
  ∧ ((stageOf s.pass).hot = true → s.outs.spraySetpoint ≤ s.share.hotShare)

/-- Nothing moves before the end of start-up, nor in an out-of-service bay (R15, R183, R185). -/
def AtRestUnlessInService (s : State) : Prop :=
  ¬ inService s → { s.outs with refusedLamp := .out, faultLamp := .out } = Outputs.rest

/-! ## Frames: what the end of an event may change beside what the command itself changes -/

/-- The power condition, the reader, the model's counter of free values and its queue are as they were. -/
def SameModule (s t : State) : Prop :=
  t.power = s.power ∧ t.reader = s.reader ∧ t.free = s.free ∧ t.pending = s.pending

/-- The share unit is as it was, but for what the end of an event forms: the own demand and its refresh timer (R159,
R161), the starvation condition as last reported (R169). -/
def SameShare (s t : State) : Prop :=
  t.share = { s.share with own := t.share.own, refresh := t.share.refresh, starved := t.share.starved }

/-- The event FIFO is what `l` lists, and the bus state is as it was; the rest of the yard line interface sends
(R174 to R176). -/
def Sending (l : List Notice) (s t : State) : Prop := t.line.fifo = l ∧ t.line.bus = s.line.bus

/-- The FIFO after notices have joined it one at a time (R174). -/
def joined (ns : List Notice) (s : State) : List Notice := (s.line.fifo ++ ns).take Config.fifoSize

/-- Every block but the ones a statement names: the DIU, the fill unit, the fault record. -/
def SameDiuFillFaults (s t : State) : Prop := t.diu = s.diu ∧ t.fill = s.fill ∧ t.faults = s.faults

/-- The panel and field interface has taken the select switches of a press and nothing else (R41; log 4, the model's
choice): the debounced switches are those of the press; of the raw ones, and of the switches being debounced, those
alone follow that the press found at another level. -/
def SwitchesTaken (switches : Lines8) (s t : State) : Prop :=
  let moved := switches ^^^ s.panel.level.select
  t.panel = { s.panel with
    level := { s.panel.level with select := switches }
    raw := { s.panel.raw with select := (s.panel.raw.select &&& ~~~moved) ||| (switches &&& moved) }
    bounce := s.panel.bounce.filter (fun b => match b.line with
      | .select i => !lineOn moved i
      | _ => true) }

/-- A refusal (R41): REFUSED lit with its timer started afresh, the reason in the last-refusal field, BAY_STATUS
refreshed; the job, the pass, the fill, the DIU, the fault record and the FIFO as they were. -/
def Refuses (r : Reason) (s t : State) : Prop :=
  t.panel.refused = some 2000 ∧ t.panel.lastRefusal = r ∧ t.outs.refusedLamp = .lit
  ∧ t.line.statusTimer = some 10000
  ∧ SameModule s t ∧ t.job = s.job ∧ t.pass = s.pass ∧ SameDiuFillFaults s t ∧ SameShare s t
  ∧ Sending s.line.fifo s t

end Sys2Proof.Machine
end

