-- ==== Sys2Proof/Certificates/Slice0/Obligations.lean ====
section
/-! DEFINITION. The statements for the provers: what the commands of the EB-420 do, block by block, and what every step
keeps. -/

section
open Sys2Proof Sys2Proof.Machine

/-! ## The queue, reset and start-up -/

/-- The state after reset: every block at the value its chapter gives (R18, R42, R61, R108, R139, R154, R171, R179,
R41), the outputs in the rest state with every lamp out (R183 to R185), no command waiting; and the invariants of the
steps hold of it (R33, R43, R139, R157, R174, R179). -/
def Obligations.ResetLeavesEveryBlockEmpty : Prop :=
  State.reset.job.state = .noJob ∧ State.reset.job.record = none ∧ State.reset.job.table = []
  ∧ State.reset.job.assembly = none ∧ State.reset.job.clock = 0 ∧ State.reset.job.passCounter = 0
  ∧ State.reset.job.lastNumber = 0
  ∧ (State.reset.job.supplyTally, State.reset.job.agentTally, State.reset.job.effluentTally,
      State.reset.job.productTally) = (0, 0, 0, 0)
  ∧ State.reset.pass.phase = .none ∧ State.reset.pass.batch = [] ∧ State.reset.pass.members = []
  ∧ State.reset.pass.window = none ∧ State.reset.pass.abortCode = none
  ∧ (State.reset.diu.c.gain, State.reset.diu.t.gain, State.reset.diu.temp.gain) = (1, 1, 1)
  ∧ (State.reset.diu.c.present && State.reset.diu.t.present && State.reset.diu.temp.present) = true
  ∧ State.reset.diu.baseC = none ∧ State.reset.diu.baseT = none ∧ State.reset.diu.window = none
  ∧ State.reset.diu.histories = []
  ∧ State.reset.fill.ctx = none ∧ State.reset.fill.estimate = 20
  ∧ State.reset.share.plant = .shutdown ∧ State.reset.share.stale = none ∧ State.reset.share.peers = []
  ∧ State.reset.share.hotShare = 0 ∧ State.reset.share.effShare = 0 ∧ State.reset.share.pumpOut = false
  ∧ State.reset.share.lockout = false ∧ State.reset.share.steadyFlag = false
  ∧ State.reset.line.bus = .active ∧ State.reset.line.fifo = [] ∧ State.reset.line.gap = false
  ∧ State.reset.line.demandBox = none ∧ State.reset.line.statusBox = none ∧ State.reset.line.tx = none
  ∧ State.reset.faults = ⟨none, false⟩
  ∧ State.reset.panel.refused = none ∧ State.reset.panel.lastRefusal = .none
  ∧ State.reset.outs = Outputs.rest ∧ State.reset.pending = []
  ∧ FifoBounded State.reset ∧ OverflowHasRecord State.reset ∧ PeersDistinct State.reset
  ∧ CounterBounded State.reset ∧ EstimateBounded State.reset ∧ OutputsDriven State.reset

/-- One step takes the command at the front of the queue and does what `exec` says, on the state with the rest of the
queue. -/
def Obligations.StepTakesFrontCommand : Prop :=
  ∀ (c : Instr) (s : State) (rest : List Instr),
    step { s with pending := c :: rest } = exec c { s with pending := rest }

/-- With no command waiting (the model's choice, log 2): before the end of start-up the module idles; in operation,
with no event due, one millisecond passes at every clock and timer: the job clock and the assembly deadline (R34, R22),
the pass age and the timer of the phase the engine is in (R52, R64, R69, R76, R83, R84, R87, R88, R101), the sample
clocks (R109, R167), the fill's quiet timer (R144), the share unit's timers and the peers' silence (R155, R157, R160,
R161), the BAY_STATUS refresh (R175; it stands at 10 s afresh only where a notice is placed), the REFUSED lamp's (R41)
and the count of every line that differs from its debounced state (R182). Nothing else changes but the own pass age of
the share unit (R159), and `late`, the model's own field of what one instant holds, is emptied (log 34, the model's
choice). -/
def Obligations.EmptyQueueRunsTheClock : Prop :=
  ∀ s : State, s.pending = [] →
    (s.power ≠ .running → step s = .next s)
    ∧ (s.power = .running → dueEvents s = [] → ∃ t, step s = .next t
        ∧ t.job = { s.job with
            clock := t.job.clock, clockSub := t.job.clockSub
            assembly := s.job.assembly.map (fun a => { a with deadline := a.deadline - 1 }) }
        ∧ (t.job.clock, t.job.clockSub) =
            (if s.job.state = .opened ∨ s.job.state = .releasing then
              (if s.job.clockSub + 1 < 1000 then (s.job.clock, s.job.clockSub + 1)
                else (min 65535 (s.job.clock + 1), 0))
             else (s.job.clock, s.job.clockSub))
        ∧ t.pass = { s.pass with
            age := t.pass.age, ageSub := t.pass.ageSub
            window := if s.pass.phase = .gathering then s.pass.window.map (· - 1) else s.pass.window
            runDown := if s.pass.phase = .runDown then s.pass.runDown.map (· - 1) else s.pass.runDown
            flushLeft := if s.pass.phase = .flush then s.pass.flushLeft - 1 else s.pass.flushLeft
            spray := if s.pass.phase = .spray then s.pass.spray.map (fun r => { r with timeMs := r.timeMs + 1 })
              else s.pass.spray
            dryLeft := if s.pass.phase = .dry then s.pass.dryLeft - 1 else s.pass.dryLeft
            holdTimer := if s.pass.phase = .held then s.pass.holdTimer.map (· - 1) else s.pass.holdTimer
            starveTimer := if s.pass.phase = .starved then s.pass.starveTimer.map (· - 1) else s.pass.starveTimer
            drainDown := if s.pass.phase = .drainDown then s.pass.drainDown.map (fun d =>
                if 1 < d.interval then { d with left := d.left - 1, interval := d.interval - 1 }
                else { left := d.left - 1, interval := 250, seen := false,
                       quiet := if d.seen then 0 else d.quiet + 1 })
              else s.pass.drainDown
            late := Late.none }
        ∧ (t.pass.age, t.pass.ageSub) =
            (if s.pass.phase ≠ .none ∧ s.pass.phase ≠ .gathering then
              (if s.pass.ageSub + 1 < 1000 then (s.pass.age, s.pass.ageSub + 1)
                else (min 65535 (s.pass.age + 1), 0))
             else (s.pass.age, s.pass.ageSub))
        ∧ t.diu = { s.diu with clock := s.diu.clock - 1 }
        ∧ t.fill = { s.fill with ctx := s.fill.ctx.map (fun x => { x with quietMs := x.quietMs + 1 }) }
        ∧ t.share = { s.share with
            stale := s.share.stale.map (· - 1), refresh := s.share.refresh.map (· - 1)
            steady := s.share.steady.map (· - 1), sumpClock := s.share.sumpClock - 1
            peers := s.share.peers.map (fun p => { p with silence := p.silence - 1 }), own := t.share.own }
        ∧ (s.line.statusDue = false → s.line.bus = .busOff ∨ s.line.tx.isSome = true ∨ s.line.fifo = [] →
            t.line.statusTimer = s.line.statusTimer.map (· - 1))
        ∧ t.panel = { s.panel with refused := s.panel.refused.map (· - 1), bounce := t.panel.bounce }
        ∧ (∀ l ∈ allLines, bounceMs l t.panel = if l.moved s.panel then bounceMs l s.panel + 1 else 0)
        ∧ t.faults = s.faults ∧ SameModule s t ∧ Sending s.line.fifo s t)

/-- R185: before the end of start-up no event is taken: every command but those of the reset line and the end of
start-up itself leaves the state as it is. The reset line held puts the outputs at rest with every lamp out and every
block's state is lost, in every power condition; its release starts the configuration read of a module held (a release
finding it not held changes nothing, log 31). -/
def Obligations.ResetLineHeldAndReleased : Prop :=
  (∀ (c : Instr) (s : State), s.power ≠ .running → c ≠ .resetLineHeld → c ≠ .resetLineRelease →
    (∀ r, c ≠ .endOfStartUp r) → exec c s = .next s)
  ∧ (∀ s : State, ∃ t, exec .resetLineHeld s = .next t
    ∧ t.power = .held ∧ t.outs = Outputs.rest ∧ t.job = JobUnit.reset ∧ t.pass = Pass.idle ∧ t.diu = Diu.reset
    ∧ t.fill = FillUnit.reset ∧ t.share = Share.reset ∧ t.line = YardLine.reset ∧ t.faults = ⟨none, false⟩
    ∧ t.panel.refused = none ∧ t.panel.lastRefusal = .none ∧ t.panel.raw = s.panel.raw ∧ t.pending = s.pending)
  ∧ (∀ s : State, s.power = .held → exec .resetLineRelease s = .next { s with power := .reading })
  ∧ (∀ s : State, s.power ≠ .held → exec .resetLineRelease s = .next s)

/-- R185: the end of start-up, one event. Every block takes its reset state, the panel the starting lines; an
in-service bay has its first DEMAND in the transmit buffer, BAY_RESTARTED in the FIFO and BAY_STATUS in its mailbox,
READY lit and the other outputs at rest; an out-of-service bay places no DEMAND, so BAY_RESTARTED goes out first, and
every output and lamp stays at rest (R15). -/
def Obligations.EndOfStartUp : Prop :=
  ∀ (r : StartUpRead) (s : State), s.power = .reading → ∃ t, exec (.endOfStartUp r) s = .next t
    ∧ t.power = .running ∧ t.reader = readConfiguration r
    ∧ t.job = JobUnit.reset ∧ t.pass = Pass.idle ∧ t.diu = Diu.reset ∧ t.fill = FillUnit.reset
    ∧ t.faults = ⟨none, false⟩ ∧ t.panel.level = r.lines ∧ t.panel.raw = r.lines
    ∧ t.panel.refused = none ∧ t.panel.lastRefusal = .none ∧ t.pending = s.pending
    ∧ t.line.fifo = [bayRestartedNotice (readConfiguration r)] ∧ t.line.bus = .active ∧ t.line.gap = false
    ∧ t.line.demandBox = none ∧ t.line.statusBox.isSome = true ∧ t.line.statusTimer = some 10000
    ∧ ((readConfiguration r).mark = .inService →
        t.line.tx.map (·.content) = some (.demand Demand.zero) ∧ t.line.inTx = none
        ∧ t.share = { Share.reset with refresh := some 1000 } ∧ t.outs = { Outputs.rest with ready := .lit })
    ∧ ((readConfiguration r).mark ≠ .inService →
        t.line.tx.map (·.content) = some (.event (bayRestartedNotice (readConfiguration r)))
        ∧ t.share = Share.reset ∧ t.outs = Outputs.rest)

/-- R2, R3, R14: an image whose stored check value differs from the computed CRC or whose yard parameters fail their
checks, a memory that answers short and one that does not answer are not used in any part; the mark follows from the
image and the straps; the CRC as computed is kept, 0 for no answer (that of a short answer is a free value, log 9). An
image that passes is in use, with its yard parameters: mode, capacity and rate as they stand, the four marks in litres,
each floor(capacity × percent / 100), in their strict order. -/
def Obligations.ImageIsUsedOnlyWhenItPasses : Prop :=
  (∀ r : StartUpRead,
    let bad := (readConfiguration r).tables = none ∧ (readConfiguration r).disabled = []
      ∧ (readConfiguration r).mark = if r.straps = 0 then .badImageNodeZero else .badImage
    (r.memory = .silent → (readConfiguration r).check = 0 ∧ bad)
    ∧ (∀ bytes, r.memory = .short bytes → bad)
    ∧ (∀ bytes stored fields, r.memory = .whole bytes stored fields →
      (readConfiguration r).check = crc16 bytes
      ∧ (crc16 bytes ≠ stored → bad)
      ∧ (crc16 bytes = stored → checkYard fields.yard = none → bad)
      ∧ (∀ y, crc16 bytes = stored → checkYard fields.yard = some y →
          (readConfiguration r).tables = some { yard := y, classes := fields.classes.map readClass,
                                                recipes := fields.recipes.map readRecipe, map := fields.map }
          ∧ (readConfiguration r).disabled = disabledFrom 1 fields.recipes
          ∧ (readConfiguration r).mark = if r.straps = 0 then .nodeZero else .inService))
    ∧ (readConfiguration r).node = r.straps)
  ∧ (∀ y : RawYard, (checkYard y).isSome = true ↔ y.mode.isSome = true ∧ 2000 ≤ y.capacity ∧ y.capacity ≤ 12000
      ∧ y.stopMark < y.startMark ∧ y.startMark < y.resumeMark ∧ y.resumeMark < y.highMark ∧ y.highMark ≤ 100
      ∧ 50 ≤ y.maxRate ∧ y.maxRate ≤ 600)
  ∧ (∀ (y : RawYard) (z : Yard), checkYard y = some z →
    some z.mode = y.mode ∧ z.capacity = y.capacity ∧ z.maxRate = y.maxRate
    ∧ z.highMark = y.capacity * y.highMark / 100 ∧ z.resumeMark = y.capacity * y.resumeMark / 100
    ∧ z.startMark = y.capacity * y.startMark / 100 ∧ z.stopMark = y.capacity * y.stopMark / 100
    ∧ z.stopMark < z.startMark ∧ z.startMark < z.resumeMark ∧ z.resumeMark < z.highMark
    ∧ z.highMark ≤ z.capacity)

/-- R5, R9 to R11, R13: the entries of a good image. A class is enabled when the image enables it, its group is one and
its range is not empty. A recipe passes exactly when every range check of R9 and every structure check of R10 holds; it
is used when it is enabled and passes, and the enabled ones that fail are the set disabled by check. The recipe for a
pair of classes is the map's entry (its place in the list is log 29) when that names a recipe in use, else none. -/
def Obligations.ImageEntriesByTheirChecks : Prop :=
  (∀ c : RawClass,
    (readClass c).enabled = (c.enabled && c.group.isSome && decide (c.sigLow ≤ c.sigHigh))
    ∧ (readClass c).sigLow = c.sigLow ∧ (readClass c).sigHigh = c.sigHigh
    ∧ (∀ g, c.group = some g → (readClass c).group = g))
  ∧ (∀ r : RawRecipe, (checkRecipe r).isSome = true ↔
    1 ≤ r.stages.length ∧ r.stages.length ≤ 12 ∧ r.tolerance ≤ 2 ∧ 60 ≤ r.holdLimit ∧ r.holdLimit ≤ 1800
    ∧ 30 ≤ r.starveLimit ∧ r.starveLimit ≤ 600
    ∧ (∀ g ∈ r.stages, ∃ kind insp, g.kind = some kind ∧ g.inspection = some insp
        ∧ (g.temperature = 0 ∨ (30 ≤ g.temperature ∧ g.temperature ≤ 90))
        ∧ 30 ≤ g.timeLimit ∧ g.timeLimit ≤ 1800 ∧ g.dose ≤ 50 ∧ (g.dose = 0 ∨ kind = .wash)
        ∧ (kind = .finalRinse → 1 ≤ g.repeatLimit ∧ g.repeatLimit ≤ 9) ∧ (kind ≠ .finalRinse → g.repeatLimit = 1)
        ∧ (kind ≠ .dry → 50 ≤ g.volume ∧ g.volume ≤ 4000 ∧ 40 ≤ g.flow ∧ g.flow ≤ 400
            ∧ 30 ≤ g.windowMax ∧ g.windowMax ≤ 240)
        ∧ (kind = .dry → insp = .none ∧ g.volume = 0 ∧ g.temperature = 0))
    ∧ (∃ before final after, r.stages = before ++ final :: after ∧ final.kind = some .finalRinse
        ∧ final.inspection ≠ some .none ∧ (∀ g ∈ before, g.kind ≠ some .finalRinse)
        ∧ (∀ g ∈ after, g.kind = some .dry))
    ∧ (∀ ch p, (ch = .conductivity ∧ p = r.c) ∨ (ch = .turbidity ∧ p = r.t) →
        (∃ g ∈ r.stages, ∃ n, g.inspection = some n ∧ names n ch = true) →
        p.clear ≤ 20000 ∧ p.dirty ≤ 20000 ∧ p.clear < p.dirty))
  ∧ (∀ (r : RawRecipe) (x : Recipe), checkRecipe r = some x →
    x.tolerance = r.tolerance ∧ x.holdLimit = r.holdLimit ∧ x.starveLimit = r.starveLimit ∧ x.c = r.c ∧ x.t = r.t
    ∧ x.stages.length = r.stages.length
    ∧ (∀ (k : Nat) (g : RawStage) (h : Stage), r.stages[k]? = some g → x.stages[k]? = some h →
        g.kind = some h.kind ∧ g.inspection = some h.inspection ∧ h.temperature = g.temperature
        ∧ h.volume = g.volume ∧ h.flow = g.flow ∧ h.timeLimit = g.timeLimit ∧ h.dose = g.dose
        ∧ h.repeatLimit = g.repeatLimit ∧ h.windowMax = g.windowMax))
  ∧ (∀ r : RawRecipe, readRecipe r = if r.enabled = true then checkRecipe r else none)
  ∧ (∀ (l : List RawRecipe) (n : Nat), n ∈ disabledFrom 1 l ↔
      ∃ r, 1 ≤ n ∧ l[n - 1]? = some r ∧ r.enabled = true ∧ checkRecipe r = none)
  ∧ (∀ (s : State) (tb : Tables) (last next n : Nat), s.reader.tables = some tb →
      (recipeForPair s last next = some n ↔ 1 ≤ last ∧ last ≤ 15 ∧ 1 ≤ next ∧ next ≤ 15
        ∧ tb.map[(last - 1) * 15 + (next - 1)]? = some n ∧ 1 ≤ n ∧ n ≤ 31
        ∧ ∃ x, tb.recipes[n - 1]? = some (some x)))

/-! ## The panel (chapter 3, R82 to R85, R104, R105, R180) -/

/-- R180: CLEAR_FAULT empties the fault record and clears the overflow flag, in every state of a module in operation;
the FAULT lamp goes out, a record emptied refreshes BAY_STATUS; the notices waiting, the lockout and every other block
stand. No other command but the reset line's and the end of start-up empties a record or replaces it (R179). -/
def Obligations.ClearFaultEmptiesTheRecordAlone : Prop :=
  (∀ s : State, s.power = .running → ∃ t, exec .clearFault s = .next t
    ∧ t.faults = ⟨none, false⟩ ∧ t.outs.faultLamp = .out
    ∧ (s.faults.record.isSome = true → t.line.statusTimer = some 10000)
    ∧ SameModule s t ∧ t.job = s.job ∧ t.pass = s.pass ∧ t.diu = s.diu ∧ t.fill = s.fill ∧ t.panel = s.panel
    ∧ SameShare s t ∧ Sending s.line.fifo s t)
  ∧ (∀ (c : Instr) (s t : State) (r : FaultRec), s.faults.record = some r → exec c s = .next t →
      c ≠ .clearFault → c ≠ .resetLineHeld → (∀ x, c ≠ .endOfStartUp x) → t.faults.record = some r)

/-- R181: the FAULT lamp after every event of a module in operation whose outputs are driven (an invariant: see
OutputsAreDrivenAtEveryStep): out with the record empty, lit steady with a record held and overflow clear, flashing
with overflow set; it is out after reset and after the reset line is released. -/
def Obligations.FaultLampShowsTheRecord : Prop :=
  (∀ (c : Instr) (s t : State), OutputsDriven s → exec c s = .next t → s.power = .running → t.power = .running →
    (t.faults.record = none → t.outs.faultLamp = .out)
    ∧ (t.faults.record.isSome = true → t.faults.overflow = false → t.outs.faultLamp = .lit)
    ∧ (t.faults.record.isSome = true → t.faults.overflow = true → t.outs.faultLamp = .flashing))
  ∧ State.reset.outs.faultLamp = .out
  ∧ (∀ s t u : State, exec .resetLineHeld s = .next t → exec .resetLineRelease t = .next u →
      t.outs.faultLamp = .out ∧ u.outs.faultLamp = .out)

/-- R41, R57, R105: KEY_ON changes the key's level alone; the REFUSED lamp's expiry puts the lamp out and keeps the
last-refusal field. -/
def Obligations.KeyOnAndRefusedLampExpiry : Prop :=
  ∀ s : State, s.power = .running →
    (∃ t, exec .keyOn s = .next t
      ∧ t.panel = { s.panel with level := { s.panel.level with key := true },
                                 raw := { s.panel.raw with key := true }, bounce := t.panel.bounce }
      ∧ SameModule s t ∧ t.job = s.job ∧ t.pass = s.pass ∧ SameDiuFillFaults s t ∧ SameShare s t
      ∧ Sending s.line.fifo s t)
    ∧ (∃ t, exec .refusedLampExpiry s = .next t ∧ t.panel = { s.panel with refused := none }
      ∧ t.outs.refusedLamp = .out
      ∧ SameModule s t ∧ t.job = s.job ∧ t.pass = s.pass ∧ SameDiuFillFaults s t ∧ SameShare s t
      ∧ Sending s.line.fifo s t)

/-- R43: START by its checks, the first that applies deciding. -/
def Obligations.StartChecksInOrder : Prop :=
  ∀ (switches : Lines8) (s : State), s.power = .running → ∃ t, exec (.start switches) s = .next t
    ∧ if s.job.state ≠ .opened then Refuses .noJob s t
      else if s.pass.phase = .gathering then
        t.pass = Pass.idle ∧ t.panel.refused = s.panel.refused ∧ t.panel.lastRefusal = s.panel.lastRefusal
        ∧ t.job.passCounter = s.job.passCounter
      else if s.pass.phase ≠ .none then Refuses .passActive s t
      else if 255 ≤ s.job.passCounter then Refuses .passLimit s t
      else if selection switches s = [] then Refuses .noneSelected s t
      else if 4 < (selection switches s).length then Refuses .batchFull s t
      else t.pass.phase = .gathering ∧ t.pass.window = some 30000 ∧ t.job.passCounter = s.job.passCounter
        ∧ t.job.state = s.job.state

/-- R44 to R50: START with one compartment selected, in an OPEN job with the engine in NONE, by the admission checks in
their order: the batch it leaves, the compartment's record, and what it shows. -/
def Obligations.StartExaminesACompartment : Prop :=
  ∀ (switches : Lines8) (s : State) (i : Nat) (c : Compartment), s.power = .running → s.job.state = .opened →
    s.pass.phase = .none → s.job.passCounter < 255 → selection switches s = [i] → compartment? s i = some c →
    ∃ t, exec (.start switches) s = .next t
      ∧ t.pass.phase = .gathering ∧ t.pass.window = some 30000 ∧ SameModule s t ∧ SameDiuFillFaults s t
      ∧ SameShare s t ∧ Sending s.line.fifo s t
      ∧ if c.state = .barred then
          t.pass.batch = [] ∧ t.job = s.job ∧ t.panel.lastRefusal = .barred ∧ t.panel.refused = some 2000
        else if c.state ≠ .soiled ∧ c.state ≠ .unknown ∧ (c.state ≠ .rejected ∨ s.panel.level.key = false) then
          t.pass.batch = [] ∧ t.job = s.job ∧ t.panel.lastRefusal = .notSoiled ∧ t.panel.refused = some 2000
        else if c.keyed = true ∧ s.panel.level.key = false then
          t.pass.batch = [] ∧ t.job = s.job ∧ t.panel.lastRefusal = .keyedSkipped
          ∧ t.panel.refused = s.panel.refused
        else if lineOn s.panel.level.head i = false then
          t.pass.batch = [] ∧ t.job = s.job ∧ t.panel.lastRefusal = .headNotSeated ∧ t.panel.refused = some 2000
        else
          t.pass.batch = [{ index := i, prior := c.state }]
          ∧ t.pass.batchRecipe =
              some (if c.state = .unknown ∨ (c.state = .rejected ∧ c.lastClass = 0) then 0 else c.recipe.getD 0)
          ∧ t.job = { s.job with table := s.job.table.map (fun x => if x.index = i then
              { x with state := .scheduled,
                       keyMark := if c.keyed then .keyed else if c.state = .rejected then .rejected else .none }
              else x) }
          ∧ t.panel.lastRefusal = s.panel.lastRefusal ∧ t.panel.refused = s.panel.refused

/-- R54, R55: the buttons that cancel a gathering batch, with an OPEN job. Every member's record takes its prior state
and loses its key mark, the engine is in NONE, no counter rises and no refusal shows; a fill runs on. -/
def Obligations.ButtonsThatCancelABatch : Prop :=
  ∀ (c : Instr) (switches : Lines8) (s : State), s.power = .running → s.pass.phase = .gathering →
    s.job.state = .opened →
    (c = .start switches ∨ c = .resume ∨ c = .fill switches ∨ c = .abandon switches
      ∨ (c = .hold ∧ s.pass.batch = [])) →
    ∃ t, exec c s = .next t ∧ t.pass = Pass.idle
      ∧ t.job.table = s.pass.batch.foldl (fun l b => l.map (fun x =>
          if x.index = b.index then { x with state := b.prior, keyMark := .none } else x)) s.job.table
      ∧ t.job.passCounter = s.job.passCounter ∧ (t.job.state = .opened ∨ t.job.state = .closed)
      ∧ (t.job.supplyTally, t.job.agentTally, t.job.effluentTally, t.job.productTally)
          = (s.job.supplyTally, s.job.agentTally, s.job.effluentTally, s.job.productTally)
      ∧ t.panel.refused = s.panel.refused ∧ t.panel.lastRefusal = s.panel.lastRefusal
      ∧ SameModule s t ∧ SameDiuFillFaults s t ∧ SameShare s t

/-- R45 to R51: ADD. Outside GATHERING it is refused NOT_GATHERING; a selection of other than one compartment
SELECT_ONE. A compartment offered to a batch that is not empty passes or fails the six admission checks in their order:
state, KEYED, head, probe rules, recipe, size. An admission restarts the append window, puts the compartment into the
batch in its place and makes its record SCHEDULED with its key mark; any other outcome leaves the batch, its window and
the record as they were. -/
def Obligations.AddByItsChecks : Prop :=
  (∀ (switches : Lines8) (s : State), s.power = .running → ∃ t, exec (.add switches) s = .next t
    ∧ SameModule s t ∧ SameDiuFillFaults s t ∧ SameShare s t ∧ Sending s.line.fifo s t
    ∧ (s.pass.phase ≠ .gathering → Refuses .notGathering s t)
    ∧ (s.pass.phase = .gathering → (selection switches s).length ≠ 1 → Refuses .selectOne s t)
    ∧ (∀ i c, s.pass.phase = .gathering → selection switches s = [i] → compartment? s i = some c →
        (∀ mark recipe, admission s c = .admitted mark recipe →
          t.pass = { s.pass with
            window := some 30000, batch := insertBatch { index := i, prior := c.state } s.pass.batch
            batchRecipe := if s.pass.batch = [] then some recipe else s.pass.batchRecipe
            probe := if s.pass.batch = [] then decide (recipe = 0) else s.pass.probe }
          ∧ t.job = { s.job with table := s.job.table.map (fun x =>
              if x.index = i then { x with state := .scheduled, keyMark := mark } else x) }
          ∧ t.panel.lastRefusal = s.panel.lastRefusal ∧ t.panel.refused = s.panel.refused)
        ∧ (∀ r, admission s c = .refused r →
          t.pass = s.pass ∧ t.job = s.job ∧ t.panel.refused = some 2000 ∧ t.panel.lastRefusal = r)
        ∧ (admission s c = .skipped →
          t.pass = s.pass ∧ t.job = s.job ∧ t.panel.refused = s.panel.refused
          ∧ t.panel.lastRefusal = .keyedSkipped)))
  ∧ (∀ (s : State) (c : Compartment), s.pass.batch ≠ [] → admission s c =
      if c.state = .barred then .refused .barred
      else if c.state ≠ .soiled ∧ c.state ≠ .unknown ∧ (c.state ≠ .rejected ∨ s.panel.level.key = false) then
        .refused .notSoiled
      else if c.keyed = true ∧ s.panel.level.key = false then .skipped
      else if lineOn s.panel.level.head c.index = false then .refused .headNotSeated
      else if s.pass.probe = true ∨ c.state = .unknown ∨ (c.state = .rejected ∧ c.lastClass = 0) then
        .refused .probeAlone
      else if c.recipe ≠ s.pass.batchRecipe then .refused .recipeDiffers
      else if 4 ≤ s.pass.batch.length then .refused .batchFull
      else .admitted (if c.keyed then .keyed else if c.state = .rejected then .rejected else .none)
        (c.recipe.getD 0))

/-- R82 to R84, R86: HOLD by the phase of a formed pass and in NONE. FLUSH, SPRAY and DRY are left for a run-down
toward HELD of at most 5 s, which ends at once with the pump-stopped line on; the remainders and the spray record are
kept. R53, R59, R60: HOLD over a batch with members forms the pass into HELD: the counter rises by one and is the pass
number, the checkpoints are saved, the members are WASHING, the hold timer starts, the age is 0. -/
def Obligations.HoldByPhase : Prop :=
  (∀ s : State, s.power = .running → s.pass.phase ≠ .gathering → ∃ t, exec .hold s = .next t
    ∧ SameModule s t ∧ t.job = s.job ∧ SameDiuFillFaults s t ∧ t.panel = s.panel ∧ SameShare s t
    ∧ Sending s.line.fifo s t
    ∧ (∀ r, (s.pass.phase = .flush ∧ r = ResumePoint.flush) ∨ (s.pass.phase = .spray ∧ r = ResumePoint.spray)
          ∨ (s.pass.phase = .dry ∧ r = ResumePoint.dry) →
        t.pass.resumeAt = some r ∧ t.pass.flushLeft = s.pass.flushLeft ∧ t.pass.spray = s.pass.spray
        ∧ t.pass.dryLeft = s.pass.dryLeft ∧ t.pass.members = s.pass.members ∧ t.pass.stage = s.pass.stage
        ∧ (s.panel.level.pumpStopped = false →
            t.pass.phase = .runDown ∧ t.pass.dest = some .held ∧ t.pass.runDown = some 5000)
        ∧ (s.panel.level.pumpStopped = true →
            t.pass.phase = .held ∧ t.pass.holdTimer = some ((recipeOf s.pass).holdLimit * 1000)))
    ∧ (s.pass.phase = .drain ∨ (s.pass.phase = .runDown ∧ s.pass.dest = some .drain) →
        t.pass = { s.pass with pendingHold := true })
    ∧ (s.pass.phase = .runDown → s.pass.dest = some .starved →
        t.pass = { s.pass with dest := some .held, resumeAt := some .spray })
    ∧ (s.pass.phase = .starved →
        t.pass.phase = .held ∧ t.pass.resumeAt = some .spray ∧ t.pass.starveTimer = none
        ∧ t.pass.holdTimer = some ((recipeOf s.pass).holdLimit * 1000) ∧ t.pass.members = s.pass.members)
    ∧ (s.pass.phase = .none ∨ s.pass.phase = .held ∨ s.pass.phase = .drainDown
        ∨ (s.pass.phase = .runDown ∧ (s.pass.dest = some .held ∨ s.pass.dest = some .drainDown)) →
        t.pass = s.pass))
  ∧ (∀ s : State, s.power = .running → s.pass.phase = .gathering → s.pass.batch ≠ [] →
    ∃ t, exec .hold s = .next t
      ∧ t.pass.phase = .held ∧ t.pass.resumeAt = some .next ∧ t.pass.nextStep = some .firstStage
      ∧ t.pass.holdTimer = some ((recipeOf t.pass).holdLimit * 1000)
      ∧ t.job.passCounter = s.job.passCounter + 1 ∧ t.pass.number = s.job.passCounter + 1
      ∧ t.pass.recipe = s.pass.batchRecipe.getD 0 ∧ t.pass.stage = 1 ∧ t.pass.repeats = 0 ∧ t.pass.age = 0
      ∧ t.pass.class2 = 0 ∧ t.pass.class3 = 0 ∧ t.pass.abortCode = none ∧ t.pass.pendingHold = false
      ∧ t.pass.tolerance = max (jobTolerance s) (recipeOf t.pass).tolerance
      ∧ t.pass.members.map (fun m => (m.index, m.ckState)) = s.pass.batch.map (fun b => (b.index, b.prior))
      ∧ (∀ m ∈ t.pass.members, m.passed = false ∧ m.retiring = none ∧ m.own = 0 ∧ m.wetted = false)
      ∧ (∀ x ∈ t.job.table, ∀ b ∈ s.pass.batch, b.index = x.index → x.state = .washing)
      ∧ (s.pass.batch.map (·.index)).length = t.diu.histories.length
      ∧ SameModule s t ∧ t.fill = s.fill ∧ t.faults = s.faults ∧ t.panel = s.panel ∧ SameShare s t
      ∧ Sending s.line.fifo s t)

/-- R85, R62, R64, R66, R73, R76: RESUME. Outside GATHERING and HELD it is ignored. From HELD a FLUSH or a DRY goes on
for the time left, a DRAIN opens the next window of its list, a SPRAY is taken up with its record, or left STARVED, by
the starvation condition, or, with its volume reached, ends in DRAIN (R68; by pulses of the run-down, log 17, the
model's reading), and a step decided before the hold is begun: the first stage, a further run or the following stage,
entered by its FLUSH (a FINAL_RINSE run raises the repeat count) or its DRY. The raw pump-stopped line is moved as log
5 has it (the model's choice): on in FLUSH and DRY, off in SPRAY, the debounced line following by the clock. Taking up
FLUSH, SPRAY and DRAIN and entering FLUSH are stated with every watched head seated, probe dry and named channel
present. -/
def Obligations.ResumeByPhase : Prop :=
  ∀ s : State, s.power = .running → s.pass.phase ≠ .gathering →
    (s.pass.phase ≠ .held → ∃ t, exec .resume s = .next t
      ∧ t.pass = s.pass ∧ t.job = s.job ∧ SameModule s t ∧ SameDiuFillFaults s t ∧ t.panel = s.panel
      ∧ SameShare s t ∧ Sending s.line.fifo s t)
    ∧ (s.pass.phase = .held → s.pass.resumeAt = some .dry → ∃ t, exec .resume s = .next t
      ∧ t.pass = { s.pass with phase := .dry, resumeAt := none, holdTimer := none }
      ∧ t.panel = { s.panel with raw := { s.panel.raw with pumpStopped := true } }
      ∧ t.job = s.job ∧ SameModule s t ∧ SameDiuFillFaults s t ∧ SameShare s t ∧ Sending s.line.fifo s t)
    ∧ (s.pass.phase = .held → s.pass.resumeAt = some .spray → volumeReached s.pass = false →
        starvation s = true → ∃ t, exec .resume s = .next t
      ∧ t.pass.starveTimer = some ((recipeOf s.pass).starveLimit * 1000) ∧ t.pass.phase = .starved
      ∧ t.pass.holdTimer = none ∧ t.pass.spray = s.pass.spray ∧ t.pass.members = s.pass.members
      ∧ t.job = s.job ∧ SameModule s t ∧ SameDiuFillFaults s t ∧ t.panel = s.panel ∧ SameShare s t
      ∧ Sending s.line.fifo s t)
    ∧ (s.pass.phase = .held → s.pass.resumeAt = some .spray → volumeReached s.pass = false →
        starvation s = false → unseated s = [] → flooded s = [] → s.pass.abortCode = none →
        allRetiring s.pass = false → ∃ t, exec .resume s = .next t
      ∧ t.pass.phase = .spray ∧ t.pass.holdTimer = none ∧ t.pass.spray = s.pass.spray
      ∧ t.pass.members = s.pass.members.map (fun m =>
          if m.passed = false ∧ m.retiring = none then { m with wetted := true } else m)
      ∧ t.panel = { s.panel with raw := { s.panel.raw with pumpStopped := false } }
      ∧ t.job = s.job ∧ SameModule s t ∧ SameDiuFillFaults s t ∧ SameShare s t ∧ Sending s.line.fifo s t)
    ∧ (s.pass.phase = .held → s.pass.resumeAt = some .spray → volumeReached s.pass = true → unseated s = [] →
        namedAbsent s = false → s.pass.abortCode = none → (∃ m ∈ s.pass.members, m.passed = false) →
        ∃ t, exec .resume s = .next t
      ∧ t.pass.phase = .drain ∧ t.pass.drainList = (s.pass.members.filter (fun m => !m.passed)).map (·.index)
      ∧ t.pass.draining = t.pass.drainList.head? ∧ t.diu.window.map (·.member) = t.pass.drainList.head?
      ∧ t.pass.spray = none ∧ t.pass.resumeAt = none ∧ t.pass.holdTimer = none ∧ t.pass.members = s.pass.members
      ∧ t.pass.stage = s.pass.stage ∧ t.diu.clock = 250 ∧ t.share.steadyFlag = false
      ∧ t.panel = { s.panel with raw := { s.panel.raw with pumpStopped := true } }
      ∧ t.job = s.job ∧ t.fill = s.fill ∧ t.faults = s.faults ∧ SameModule s t ∧ Sending s.line.fifo s t)
    ∧ (s.pass.phase = .held → s.pass.resumeAt = some .flush → unseated s = [] → s.pass.members ≠ [] →
        allRetiring s.pass = false → s.pass.abortCode = none → s.diu.c.present = true → s.diu.t.present = true →
        3600000 ≤ s.panel.loopC → 3600000 ≤ s.panel.loopT → ∃ t, exec .resume s = .next t
      ∧ t.pass = { s.pass with phase := .flush, resumeAt := none, holdTimer := none }
      ∧ t.panel = { s.panel with raw := { s.panel.raw with pumpStopped := true } } ∧ t.diu.clock = 250
      ∧ t.job = s.job ∧ t.fill = s.fill ∧ t.faults = s.faults ∧ SameModule s t ∧ SameShare s t
      ∧ Sending s.line.fifo s t)
    ∧ (∀ i rest, s.pass.phase = .held → s.pass.resumeAt = some .drain → unseated s = [] → s.pass.members ≠ [] →
        s.pass.drainList = i :: rest → namedAbsent s = false → ∃ t, exec .resume s = .next t
      ∧ t.pass = { s.pass with phase := .drain, resumeAt := none, holdTimer := none, draining := some i }
      ∧ t.diu = { s.diu with window := some (windowFor i s), clock := 250 }
      ∧ t.job = s.job ∧ t.fill = s.fill ∧ t.faults = s.faults ∧ t.panel = s.panel ∧ SameModule s t ∧ SameShare s t
      ∧ Sending s.line.fifo s t)
    ∧ (∀ g, s.pass.phase = .held → s.pass.resumeAt = some .next → s.pass.nextStep = some .following →
        (recipeOf s.pass).stages[s.pass.stage]? = some g → g.kind = .dry → ∃ t, exec .resume s = .next t
      ∧ t.pass.phase = .dry ∧ t.pass.stage = s.pass.stage + 1 ∧ t.pass.dryLeft = g.timeLimit * 1000
      ∧ t.pass.holdTimer = none ∧ t.pass.members = s.pass.members
      ∧ t.job = s.job ∧ SameModule s t ∧ SameDiuFillFaults s t ∧ SameShare s t ∧ Sending s.line.fifo s t)
    ∧ (∀ step stage g, s.pass.phase = .held → s.pass.resumeAt = some .next → s.pass.nextStep = some step →
        stage = (if step = .following then s.pass.stage + 1 else s.pass.stage) →
        (recipeOf s.pass).stages[stage - 1]? = some g → g.kind ≠ .dry → unseated s = [] → s.pass.members ≠ [] →
        allRetiring s.pass = false → s.pass.abortCode = none → s.diu.c.present = true → s.diu.t.present = true →
        3600000 ≤ s.panel.loopC → 3600000 ≤ s.panel.loopT → ∃ t, exec .resume s = .next t
      ∧ t.pass.phase = .flush ∧ t.pass.flushLeft = 2000 ∧ t.pass.stage = stage ∧ t.pass.skipped = false
      ∧ t.pass.repeats = (if g.kind = .finalRinse then s.pass.repeats + 1 else s.pass.repeats)
      ∧ t.pass.spray = none ∧ t.pass.resumeAt = none ∧ t.pass.nextStep = none ∧ t.pass.holdTimer = none
      ∧ t.pass.members = s.pass.members ∧ t.diu.baseC = none ∧ t.diu.baseT = none ∧ t.diu.clock = 250
      ∧ t.diu.histories = s.diu.histories
      ∧ t.panel = { s.panel with raw := { s.panel.raw with pumpStopped := true } }
      ∧ t.job = s.job ∧ t.fill = s.fill ∧ t.faults = s.faults ∧ SameModule s t ∧ SameShare s t
      ∧ Sending s.line.fifo s t)

/-! ## ABANDON, the abort causes, FILL and the stops of a fill -/

/-- R104: ABANDON with the engine in NONE and no fill of the selection is refused NOTHING_ACTIVE; with an abort under
way it is ignored; a selected fill is stopped with the pass untouched. R84, R87, R99, R100, R104, R114: an abort by
ABANDON (no fill selected), by the hold timer's expiry in HELD and by the starvation timer's expiry in STARVED. The
code is set, what R100 clears is cleared, a FLUSH left early loses its flush record (a baseline formed is held), and
the engine goes to DRAIN_DOWN: through a run-down from FLUSH, SPRAY and DRY, at once from DRAIN, HELD and STARVED;
BAY_STATUS is refreshed at every abort. R92, R131: a member that has left at its retirement in the same ms
(`late.left`, log 37, the model's reading) is found retiring: it stands in the pass again, its compartment WASHING, its
outcome due at the end of drain-down. The spray record ends with the abort (log 38, the model's reading). The select
switches that ABANDON brings (SwitchesTaken) are log 4, what may still come in this ms (`late`) is log 34: the model's
choices. -/
def Obligations.AbandonAndAbortsByPhase : Prop :=
  (∀ (switches : Lines8) (s : State), s.power = .running → s.pass.phase ≠ .gathering →
    ∃ t, exec (.abandon switches) s = .next t
      ∧ (s.pass.phase = .none → (∀ i, filling? s = some i → i ∉ selection switches s) →
          Refuses .nothingActive s t)
      ∧ (s.pass.phase ≠ .none → s.pass.abortCode.isSome = true →
          (∀ i, filling? s = some i → i ∉ selection switches s) →
          t.pass = s.pass ∧ t.job = s.job ∧ SwitchesTaken switches s t ∧ SameDiuFillFaults s t)
      ∧ (∀ x, s.fill.ctx = some x → x.compartment ∈ selection switches s →
          t.pass = s.pass ∧ t.job = s.job ∧ t.diu = s.diu ∧ t.faults = s.faults ∧ SwitchesTaken switches s t
          ∧ SameShare s t ∧ Sending s.line.fifo s t ∧ SameModule s t ∧ t.fill.estimate = s.fill.estimate
          ∧ t.fill.ctx = some (if x.phase = .runOn then x else
              { x with phase := .runOn, cause := some .abandoned, learn := false, quietMs := 0 })))
  ∧ (∀ (c : Instr) (code : Code) (s : State), s.power = .running → formed s.pass → s.pass.phase ≠ .drainDown →
    s.pass.abortCode = none →
    ((∃ switches, c = .abandon switches ∧ ∀ i, filling? s = some i → i ∉ selection switches s) ∧ code = .abandoned
      ∨ (c = .holdTimerExpiry ∧ s.pass.phase = .held ∧ code = .holdTooLong)
      ∨ (c = .starvationTimerExpiry ∧ s.pass.phase = .starved ∧ code = .supplyLost)) →
    ∃ t, exec c s = .next t
      ∧ t.pass.abortCode = some code ∧ t.pass.pendingHold = false ∧ t.pass.resumeAt = none
      ∧ t.pass.drainList = [] ∧ t.pass.draining = none ∧ t.pass.stage = s.pass.stage
      ∧ (t.pass.class2, t.pass.class3) = (s.pass.class2, s.pass.class3)
      ∧ t.diu = { s.diu with
          window := none, histories := []
          flushC := if s.pass.phase = .flush ∨ s.pass.resumeAt = some .flush then ⟨0, 0⟩ else s.diu.flushC
          flushT := if s.pass.phase = .flush ∨ s.pass.resumeAt = some .flush then ⟨0, 0⟩ else s.diu.flushT }
      ∧ t.pass.spray = none ∧ t.line.statusTimer = some 10000
      ∧ t.share.steadyFlag = false ∧ t.share.steady = none
      ∧ (s.pass.phase = .drain ∨ s.pass.phase = .held ∨ s.pass.phase = .starved →
          t.pass.phase = .drainDown
          ∧ t.pass.drainDown = some { left := 120000, interval := 250, seen := false, quiet := 0 })
      ∧ (s.pass.phase = .flush ∨ s.pass.phase = .spray ∨ s.pass.phase = .dry →
          (s.panel.level.pumpStopped = false → t.pass.phase = .runDown ∧ t.pass.dest = some .drainDown
            ∧ t.pass.runDown = some 5000)
          ∧ (s.panel.level.pumpStopped = true → t.pass.phase = .drainDown))
      ∧ (s.pass.phase = .runDown → t.pass.phase = .runDown ∧ t.pass.dest = some .drainDown
          ∧ t.pass.runDown = s.pass.runDown)
      ∧ (s.pass.late.left = [] →
          t.pass.members = s.pass.members.map (fun m => { m with passed := false, signature := none })
          ∧ t.pass.late = lateOfAbort code s ∧ t.job = s.job)
      ∧ (∀ x : Left, s.pass.late.left = [x] →
          t.pass.members = (insertMember x.member s.pass.members).map
            (fun m => { m with passed := false, signature := none })
          ∧ t.pass.departed = s.pass.departed.filter (fun r => r.index != x.member.index)
          ∧ t.job = { s.job with table := s.job.table.map (fun c =>
              if c.index = x.member.index then { c with state := .washing, keyMark := x.mark } else c) })
      ∧ t.fill = s.fill ∧ t.faults = s.faults ∧ SameModule s t ∧ Sending s.line.fifo s t)

/-- R141: FILL outside GATHERING, by its checks in their order; each refusal leaves everything as it was, and a FILL
that passes them all makes the compartment FILLING and sets up its context. R143, R146: that context. Targets, trim and
tolerance in pulses, and the first phase by the first case that applies: RUN_ON within tolerance, FULL_FLOW beyond the
trim, else TRIM with its close point. The select switches that FILL brings (SwitchesTaken) are log 4, the model's
choice. -/
def Obligations.FillChecksInOrder : Prop :=
  (∀ (switches : Lines8) (s : State), s.power = .running → s.pass.phase ≠ .gathering →
    ∃ t, exec (.fill switches) s = .next t
      ∧ if s.job.state ≠ .opened then Refuses .noJob s t
        else if (selection switches s).length ≠ 1 then Refuses .selectOne s t
        else if s.fill.ctx.isSome = true then Refuses .fillBusy s t
        else ∀ i c, selection switches s = [i] → compartment? s i = some c →
          if c.state ≠ .clean ∧ c.state ≠ .partFilled then Refuses .notClean s t
          else if c.fillTarget = 0 then Refuses .notRequested s t
          else ∀ x, c.certificate = some x →
            if x.grade.rank < (minGradeOf s).rank then Refuses .gradeLow s t
            else if x.fitFor ≠ c.nextClass then Refuses .wrongClass s t
            else if c.keyed = true ∧ s.panel.level.key = false then Refuses .keyed s t
            else if lineOn s.panel.level.arm i = false then Refuses .armNotSeated s t
            else if lineOn s.panel.level.probe i = true then Refuses .probeWet s t
            else t.job = { s.job with table := s.job.table.map (fun y =>
                  if y.index = i then { y with state := .filling } else y) }
              ∧ t.fill = { s.fill with ctx := some (fillCtxFor s.fill.estimate c) }
              ∧ t.pass = s.pass ∧ t.diu = s.diu ∧ t.faults = s.faults ∧ SwitchesTaken switches s t
              ∧ SameModule s t ∧ SameShare s t ∧ Sending s.line.fifo s t)
  ∧ (∀ (e : Nat) (c : Compartment),
    let T := 5 * c.fillTarget
    let R := T - c.metered
    let trim := min 1000 (max 100 (T * 2 / 100))
    let tol := max 10 (T * 5 / 1000)
    (fillCtxFor e c).full = T ∧ (fillCtxFor e c).already = c.metered ∧ (fillCtxFor e c).remaining = R
    ∧ (fillCtxFor e c).trim = trim ∧ (fillCtxFor e c).tolerance = tol ∧ (fillCtxFor e c).compartment = c.index
    ∧ (fillCtxFor e c).count = 0 ∧ (fillCtxFor e c).runOn = 0 ∧ (fillCtxFor e c).learn = false
    ∧ (fillCtxFor e c).quietMs = 0
    ∧ (c.metered + tol ≥ T → (fillCtxFor e c).phase = .runOn ∧ (fillCtxFor e c).cause = some .target)
    ∧ (c.metered + tol < T → trim < R →
        (fillCtxFor e c).phase = .fullFlow ∧ (fillCtxFor e c).close = R - trim ∧ (fillCtxFor e c).cause = none)
    ∧ (c.metered + tol < T → R ≤ trim →
        (fillCtxFor e c).phase = .trim ∧ (fillCtxFor e c).cause = none
        ∧ (fillCtxFor e c).close = if e < R then R - e else 1))

/-- R149, R151: the arm line of the filling compartment dropping, a stall and its probe going wet stop a fill in
FULL_FLOW or TRIM: RUN_ON with the stop's cause, the learn mark clear, the count as it stands; in RUN_ON the fill is
left as it is. FILL_STALLED and FILL_PROBE are raised, an arm drop raises nothing. (The wet probe alone is stated
outside SPRAY and DRAIN_DOWN, where it concerns the pass too, and with no probe of the compartment still to come in the
ms of an abort or a retirement, log 34: SecondFaultIsRecordedOnly.) -/
def Obligations.StopsOfAFill : Prop :=
  ∀ (c : Instr) (cause : FillCause) (s : State) (x : FillCtx), s.power = .running → s.fill.ctx = some x →
    ((c = .fillArmDrop x.compartment ∧ cause = .armRemoved)
      ∨ (c = .fillStalled ∧ cause = .fillStalled ∧ x.phase ≠ .runOn)
      ∨ (c = .highLevelProbeWet x.compartment ∧ cause = .fillProbe ∧ s.pass.phase ≠ .spray
          ∧ s.pass.phase ≠ .drainDown ∧ x.compartment ∉ s.pass.late.probes)) →
    ∃ t, exec c s = .next t
      ∧ t.fill.estimate = s.fill.estimate
      ∧ t.fill.ctx = some (if x.phase = .runOn then x else
          { x with phase := .runOn, cause := some cause, learn := false, quietMs := 0 })
      ∧ t.outs.fillHigh = false ∧ t.outs.fillLow = false
      ∧ t.job = s.job ∧ t.pass = s.pass ∧ t.diu = s.diu ∧ SameShare s t ∧ SameModule s t
      ∧ t.panel.lastRefusal = s.panel.lastRefusal ∧ t.panel.refused = s.panel.refused
      ∧ (cause = .armRemoved → t.faults = s.faults ∧ Sending s.line.fifo s t)
      ∧ (∀ k : FaultKind, (cause = .fillStalled ∧ k = .fillStalled) ∨ (cause = .fillProbe ∧ k = .fillProbe) →
          (s.faults.record = none →
            t.faults = { record := some { kind := k, source := .fill, compartment := some x.compartment,
                                          stage := none, time := s.job.clock }, overflow := s.faults.overflow })
          ∧ (s.faults.record.isSome = true → t.faults = { s.faults with overflow := true }
              ∧ Sending s.line.fifo s t))

/-- R57, R68, R87, R95 to R97, R105, R150: KEY_OFF. With no pass, or one aborting (in a run-down too), only a fill of a
KEYED compartment is touched; in GATHERING the KEYED members leave the batch and no other does. In every phase of a
running pass the KEYED members that are not retiring retire KEY_REMOVED, passed ones too, and no other does: those that
have had water, or any in DRY, are marked and wait for their drain turn while another member goes on. Where the marking
brings the volume target of a SPRAY down to the count (R68), DRAIN is entered; where it lets a starved SPRAY resume
(R87), the SPRAY is taken up: both stated with the watched heads seated, and the named channels present or the probes
dry. With their wetted marks clear in FLUSH, DRAIN or HELD they leave at once, their records restored; when every
member is then retiring, DRAIN is entered for them from FLUSH, SPRAY, DRY, HELD and STARVED and is the destination of a
run-down. (`late` is log 34, the model's choice; the raw pump-stopped line, on in DRAIN, is log 5.) -/
def Obligations.KeyOffByPhase : Prop :=
  ∀ s : State, s.power = .running → ∃ t, exec .keyOff s = .next t
    ∧ (s.pass.phase = .none ∨ (s.pass.phase ≠ .gathering ∧ s.pass.abortCode.isSome = true) →
        t.panel.level.key = false ∧ t.panel.lastRefusal = s.panel.lastRefusal ∧ t.panel.refused = s.panel.refused
        ∧ t.pass = s.pass ∧ t.job = s.job ∧ t.diu = s.diu ∧ t.faults = s.faults ∧ SameModule s t ∧ SameShare s t
        ∧ Sending s.line.fifo s t
        ∧ (s.fill.ctx = none → t.fill = s.fill)
        ∧ (∀ x c, s.fill.ctx = some x → compartment? s x.compartment = some c →
            t.fill = { s.fill with ctx := some (if c.keyed = true ∧ x.phase ≠ .runOn then
              { x with phase := .runOn, cause := some .keyRemoved, learn := false, quietMs := 0 } else x) }))
    ∧ (s.pass.phase = .gathering →
        (∃ x ∈ s.job.table, terminal x = false ∧ ∀ b ∈ s.pass.batch, b.index ≠ x.index) →
        t.panel.level.key = false ∧ t.panel.lastRefusal = s.panel.lastRefusal ∧ t.panel.refused = s.panel.refused
        ∧ t.faults = s.faults ∧ t.diu = s.diu ∧ t.pass.phase = .gathering ∧ t.pass.window = s.pass.window
        ∧ t.pass.batch = s.pass.batch.filter (fun b => decide (keyMarkOf s b.index ≠ .keyed)))
    ∧ (let keyed := fun m : Member => m.retiring = none ∧ keyMarkOf s m.index = .keyed
       let marked := s.pass.members.map (fun m =>
         if keyed m then { m with retiring := some .keyRemoved, passed := false } else m)
       let after : State := { s with pass := { s.pass with members := marked } }
       let goesOn := ∃ m ∈ s.pass.members, m.retiring = none ∧ keyMarkOf s m.index ≠ .keyed
       formed s.pass → s.pass.phase ≠ .drainDown → s.pass.abortCode = none →
       (s.pass.phase = .runDown → s.pass.dest ≠ some .drainDown) → (s.pass.members.map (·.index)).Nodup →
       (∀ m ∈ s.pass.members, keyed m → ownWindowOpen m.index s = false) →
       ((∀ m ∈ s.pass.members, keyed m → m.wetted = true ∨ s.pass.phase = .dry) →
         (s.fill.ctx = none → t.fill = s.fill) ∧ t.panel.level.key = false
         ∧ t.panel.lastRefusal = s.panel.lastRefusal ∧ t.panel.refused = s.panel.refused
         ∧ (goesOn → (s.pass.phase = .spray ∨ s.pass.phase = .starved → volumeReached after.pass = false) →
             (s.pass.phase = .spray → starvation s = false) → (s.pass.phase = .starved → resumption after = false) →
             t.pass = { s.pass with members := marked, late := t.pass.late } ∧ t.diu = s.diu ∧ t.job = s.job
             ∧ t.faults = s.faults)
         ∧ (goesOn → (∃ m ∈ s.pass.members, keyed m) → s.pass.phase = .spray ∨ s.pass.phase = .starved →
             volumeReached after.pass = true → unseated s = [] → namedAbsent s = false →
             t.pass.phase = .drain ∧ t.pass.members = marked ∧ t.pass.spray = none ∧ t.pass.stage = s.pass.stage
             ∧ t.pass.drainList = (marked.filter (fun m => !m.passed)).map (·.index)
             ∧ t.pass.draining = t.pass.drainList.head? ∧ t.diu.window.map (·.member) = t.pass.drainList.head?
             ∧ t.pass.starveTimer = none ∧ t.share.steadyFlag = false ∧ t.panel.raw.pumpStopped = true
             ∧ t.job = s.job ∧ t.faults = s.faults)
         ∧ (inService s → goesOn → s.pass.phase = .starved → volumeReached after.pass = false →
             resumption after = true → nominalFlow after.pass ≠ nominalFlow s.pass → unseated s = [] →
             flooded s = [] →
             t.pass.phase = .spray ∧ t.pass.spray = s.pass.spray ∧ t.pass.stage = s.pass.stage
             ∧ t.pass.members = marked.map (fun m =>
                 if m.passed = false ∧ m.retiring = none then { m with wetted := true } else m)
             ∧ t.pass.starveTimer = none ∧ t.panel.raw.pumpStopped = false ∧ t.diu = s.diu ∧ t.job = s.job
             ∧ t.faults = s.faults)
         ∧ ((∀ m ∈ s.pass.members, m.retiring = none → keyMarkOf s m.index = .keyed) → s.pass.members ≠ [] →
             t.pass.members = marked ∧ t.pass.stage = s.pass.stage ∧ t.job = s.job ∧ t.faults = s.faults
             ∧ (s.pass.phase = .flush ∨ s.pass.phase = .spray ∨ s.pass.phase = .dry ∨ s.pass.phase = .held
               ∨ s.pass.phase = .starved →
               t.pass.phase = .drain ∧ t.pass.drainList = marked.map (·.index)
               ∧ t.pass.draining = t.pass.drainList.head?
               ∧ t.diu.window.map (fun w => (w.member, w.inspected)) = t.pass.drainList.head?.map (·, false)
               ∧ t.diu.clock = 250 ∧ t.share.steadyFlag = false ∧ t.panel.raw.pumpStopped = true
               ∧ t.pass.holdTimer = none ∧ t.pass.starveTimer = none ∧ t.pass.pendingHold = s.pass.pendingHold)
             ∧ (s.pass.phase = .runDown → t.pass.phase = .runDown ∧ t.pass.dest = some .drain)))
       ∧ ((∀ m ∈ s.pass.members, keyed m → m.wetted = false) →
         (s.pass.phase = .flush ∨ s.pass.phase = .drain ∨ s.pass.phase = .held) →
         goesOn →
         (∃ x ∈ s.job.table, terminal x = false ∧ keyMarkOf s x.index ≠ .keyed) →
         t.pass.phase = s.pass.phase ∧ t.pass.members = s.pass.members.filter (fun m => decide (¬ keyed m))
         ∧ t.pass.drainList = s.pass.drainList.filter (fun i =>
             decide (∀ m ∈ s.pass.members, m.index = i → ¬ keyed m))
         ∧ t.job = { s.job with table := s.job.table.map (fun x =>
             match s.pass.members.find? (fun m => m.index == x.index) with
             | none => x
             | some m => if keyed m then { x with state := m.ckState, lastClass := m.ckClass, keyMark := .none }
               else x) }
         ∧ t.faults = s.faults))

/-! ## Field lines -/

/-- R56: a member's head dropping in GATHERING takes the member out of the batch: its record takes its prior state, the
window runs on, HEAD_UNSEATED goes to the fault record without a stage. A head of a compartment that is no member
changes its level alone, and so does any head in NONE, DRY, RUN_DOWN, HELD and STARVED (R90; with no line of that
member still to come in the ms of an abort or a retirement, log 34: SecondFaultIsRecordedOnly). R102: in DRAIN_DOWN a
member's head dropping or its probe going wet is recorded and does nothing to the pass. -/
def Obligations.LinesThatRetireNoMember : Prop :=
  (∀ (i : Nat) (s : State), s.power = .running → ∃ t, exec (.headSeatedDrop i) s = .next t
    ∧ ((s.pass.phase = .gathering ∧ (∀ b ∈ s.pass.batch, b.index ≠ i)) ∨ s.pass.phase = .none
        ∨ ((s.pass.phase = .dry ∨ s.pass.phase = .runDown ∨ s.pass.phase = .held ∨ s.pass.phase = .starved)
          ∧ i ∉ s.pass.late.heads) →
        lineOn t.panel.level.head i = false ∧ t.panel.lastRefusal = s.panel.lastRefusal
        ∧ t.pass = s.pass ∧ t.job = s.job ∧ SameDiuFillFaults s t ∧ SameShare s t ∧ SameModule s t
        ∧ Sending s.line.fifo s t)
    ∧ (∀ b, s.pass.phase = .gathering → s.pass.batch.find? (fun x => x.index == i) = some b →
        s.faults.record = none →
        (t.pass = Pass.idle ∨ (t.pass.phase = .gathering ∧ t.pass.window = s.pass.window
          ∧ t.pass.batch = s.pass.batch.filter (fun x => x.index != i)))
        ∧ t.job.table = s.job.table.map (fun x =>
            if x.index = i then { x with state := b.prior, keyMark := .none } else x)
        ∧ t.faults.record = some { kind := .headUnseated, source := .pass, compartment := some i, stage := none,
                                   time := s.job.clock }
        ∧ t.diu = s.diu ∧ t.fill = s.fill ∧ SameShare s t ∧ SameModule s t))
  ∧ (∀ (c : Instr) (k : FaultKind) (i : Nat) (m : Member) (s : State), s.power = .running →
    s.pass.phase = .drainDown → member? s.pass i = some m → s.faults.record = none → filling? s ≠ some i →
    ((c = .headSeatedDrop i ∧ k = .headUnseated) ∨ (c = .highLevelProbeWet i ∧ k = .overflow)) →
    ∃ t, exec c s = .next t ∧ t.pass = s.pass ∧ t.job = s.job ∧ t.diu = s.diu ∧ t.fill = s.fill
      ∧ t.faults = { record := some { kind := k, source := .pass, compartment := some i,
                                      stage := some s.pass.stage, time := s.job.clock },
                     overflow := s.faults.overflow }
      ∧ SameShare s t ∧ SameModule s t)

/-- R90, R93 to R98: a member's head dropping in FLUSH, SPRAY or DRAIN, and a spraying member's probe going wet in
SPRAY, its own window not open. The class 1 fault is recorded with the stage, and the member retires with its code. A
member that has had water is marked, loses its passed mark and waits for its drain turn while another member goes on;
with its wetted mark clear it leaves at once, off the lists, its entry kept for the result, its record restored
(HEAD_UNSEATED) or REJECTED (OVERFLOW), its histories discarded, and it is noted for an abort of the same ms to find it
retiring (R92, log 37, the model's reading). When every member is then retiring, FLUSH and SPRAY end in a DRAIN for
them all, uninspected, and a DRAIN goes on; where a SPRAY goes on with a volume target brought down to its count (R68),
DRAIN is entered, stated with the other heads seated and the named channels present; when the last member has left, the
pass ends ALL_RETIRED with its PASS_RESULT. (`late` is log 34, the raw pump-stopped line, on in DRAIN, log 5: the
model's choices.) -/
def Obligations.LinesRetireTheirMember : Prop :=
  ∀ (c : Instr) (k : FaultKind) (i : Nat) (m : Member) (s : State), s.power = .running → s.pass.abortCode = none →
    member? s.pass i = some m → m.retiring = none → (s.pass.members.map (·.index)).Nodup →
    ownWindowOpen i s = false → s.faults.record = none → FifoBounded s →
    ((c = .headSeatedDrop i ∧ k = .headUnseated
        ∧ (s.pass.phase = .flush ∨ s.pass.phase = .spray ∨ s.pass.phase = .drain))
      ∨ (c = .highLevelProbeWet i ∧ k = .overflow ∧ s.pass.phase = .spray ∧ m.passed = false
        ∧ filling? s ≠ some i)) →
    (s.pass.phase = .spray → starvation s = false) →
    let f : FaultRec := { kind := k, source := .pass, compartment := some i, stage := some s.pass.stage,
                          time := s.job.clock }
    let marked := s.pass.members.map (fun x =>
      if x.index = i then { x with retiring := some k.code, passed := false } else x)
    let others := s.pass.members.filter (fun x => x.index != i)
    let recorded := fun t : State => t.faults = { record := some f, overflow := s.faults.overflow }
    let drains := fun (l : List Member) (t : State) =>
      t.pass.phase = .drain ∧ t.pass.members = l ∧ t.pass.spray = none ∧ t.pass.stage = s.pass.stage
      ∧ t.pass.drainList = (l.filter (fun x => !x.passed)).map (·.index)
      ∧ t.pass.draining = t.pass.drainList.head? ∧ t.diu.window.map (·.member) = t.pass.drainList.head?
      ∧ t.share.steadyFlag = false ∧ t.panel.raw.pumpStopped = true ∧ recorded t ∧ SameModule s t
      ∧ Sending (joined [.fault f] s) s t
    let outcome := fun x : Compartment => if x.index = i then
        (if k = .overflow then { x with state := .rejected, keyMark := .none }
         else { x with state := m.ckState, lastClass := m.ckClass, keyMark := .none })
      else x
    ∃ t, exec c s = .next t
      ∧ t.fill = s.fill
      ∧ (m.wetted = true → (∃ x ∈ others, x.retiring = none) →
          (s.pass.phase = .spray → volumeReached { s.pass with members := marked } = false) →
          t.pass = { s.pass with members := marked, late := t.pass.late }
          ∧ t.job = s.job ∧ t.diu = s.diu ∧ recorded t ∧ SameShare s t ∧ SameModule s t
          ∧ Sending (joined [.fault f] s) s t)
      ∧ (m.wetted = false → (∃ x ∈ others, x.retiring = none) →
          (s.pass.phase = .spray → volumeReached { s.pass with members := others } = false) →
          (∃ x ∈ s.job.table, x.index ≠ i ∧ terminal x = false) →
          t.pass = { s.pass with
            members := others, drainList := s.pass.drainList.filter (fun j => j != i)
            departed := insertResult { index := i, outcome := .retired k.code, own := m.own } s.pass.departed
            late := t.pass.late }
          ∧ t.pass.late.left = s.pass.late.left
            ++ [{ member := { m with retiring := some k.code, passed := false }, mark := keyMarkOf s i }]
          ∧ t.job = { s.job with table := s.job.table.map outcome }
          ∧ t.diu = { s.diu with histories := s.diu.histories.filter (fun h => h.index != i) }
          ∧ recorded t ∧ SameShare s t ∧ SameModule s t ∧ Sending (joined [.fault f] s) s t)
      ∧ (s.pass.phase = .spray → (∃ x ∈ others, x.retiring = none) →
          (∀ x ∈ others, x.retiring = none → headOn s x.index = true) → namedAbsent s = false →
          (m.wetted = true → volumeReached { s.pass with members := marked } = true →
            drains marked t ∧ t.job = s.job)
          ∧ (m.wetted = false → volumeReached { s.pass with members := others } = true →
            (∃ x ∈ others, x.passed = false) → (∃ x ∈ s.job.table, x.index ≠ i ∧ terminal x = false) →
            drains others t ∧ t.job = { s.job with table := s.job.table.map outcome }))
      ∧ (m.wetted = true → (∀ x ∈ others, x.retiring.isSome = true) →
          (s.pass.phase = .drain → t.pass = { s.pass with members := marked, late := t.pass.late }
            ∧ t.job = s.job ∧ t.diu = s.diu ∧ recorded t ∧ SameModule s t ∧ Sending (joined [.fault f] s) s t)
          ∧ (s.pass.phase = .flush ∨ s.pass.phase = .spray →
          t.pass.phase = .drain ∧ t.pass.members = marked ∧ t.pass.drainList = marked.map (·.index)
          ∧ t.pass.draining = t.pass.drainList.head? ∧ t.pass.spray = none
          ∧ t.pass.stage = s.pass.stage ∧ t.pass.repeats = s.pass.repeats
          ∧ t.diu.window.map (fun w => (w.member, w.inspected)) = t.pass.drainList.head?.map (·, false)
          ∧ (s.pass.phase = .flush → t.diu.flushC = ⟨0, 0⟩ ∧ t.diu.flushT = ⟨0, 0⟩)
          ∧ t.diu.baseC = s.diu.baseC ∧ t.diu.baseT = s.diu.baseT ∧ t.share.steadyFlag = false
          ∧ t.panel.raw.pumpStopped = true ∧ t.job = s.job ∧ recorded t ∧ SameModule s t
          ∧ Sending (joined [.fault f] s) s t))
      ∧ (m.wetted = false → others = [] →
          t.pass = Pass.idle ∧ recorded t ∧ SameModule s t ∧ t.job.table = s.job.table.map outcome ∧ t.diu.window = none ∧ t.diu.histories = []
          ∧ ∃ r rest, t.line.fifo = joined (.fault f :: .passResult r :: rest) s ∧ r.outcome = .allRetired
            ∧ r.number = s.pass.number
            ∧ r.members = insertResult { index := i, outcome := .retired k.code, own := m.own } s.pass.departed
            ∧ (rest = [] ∨ rest = [.jobReport (jobNumber s) .complete]
              ∨ rest = [.jobReport (jobNumber s) .released]))

/-- R92, R102: a fault that finds its member retiring or its pass aborting goes to the fault record only. STAGE_TIME
and TEMP_LOW while the pass is aborting (log 32), and what log 34 (both the model's) has still to come in the ms of a
retirement or an abort: a line of the member itself, or of any member that was watched, and a named channel lost where
the engine was watching. Each is recorded with the stage (and the compartment of a member's), the first code stands,
nothing is counted and no member retires. -/
def Obligations.SecondFaultIsRecordedOnly : Prop :=
  ∀ (c : Instr) (k : FaultKind) (comp : Option Nat) (s : State), s.power = .running → FifoBounded s →
    ((∃ i m, comp = some i ∧ member? s.pass i = some m ∧ (s.pass.members.map (·.index)).Nodup
        ∧ s.pass.phase ≠ .none ∧ s.pass.phase ≠ .gathering
        ∧ (m.retiring.isSome = true ∨ s.pass.phase = .runDown)
        ∧ (s.pass.phase = .drainDown ∨ i ∈ s.pass.late.lines k)
        ∧ (c = .headSeatedDrop i ∧ k = .headUnseated
          ∨ c = .highLevelProbeWet i ∧ k = .overflow ∧ filling? s ≠ some i))
      ∨ (comp = none ∧ s.pass.abortCode.isSome = true
        ∧ (c = .stageTime ∧ k = .stageTime ∨ c = .tempLow ∧ k = .tempLow
          ∨ (∃ ch, c = .channelAbsent ch ∧ k = .sensorAbsent ∧ names (stageOf s.pass).inspection ch = true
            ∧ s.pass.late.sensor = true)))) →
    let f : FaultRec := { kind := k, source := .pass, compartment := comp, stage := some s.pass.stage,
                          time := s.job.clock }
    ∃ t, exec c s = .next t
      ∧ (s.faults.record = none → t.faults = { record := some f, overflow := s.faults.overflow }
          ∧ Sending (joined [.fault f] s) s t)
      ∧ (s.faults.record.isSome = true → t.faults = { s.faults with overflow := true }
          ∧ Sending s.line.fifo s t)
      ∧ t.pass = { s.pass with late := t.pass.late } ∧ t.job = s.job ∧ t.fill = s.fill
      ∧ t.diu.window = s.diu.window ∧ t.diu.histories = s.diu.histories ∧ SameShare s t ∧ SameModule s t

/-- R83: the end of a run-down, by the pump-stopped line or after 5 s: HELD with its timer, DRAIN_DOWN with its 120 s,
or STARVED with its timer when neither the volume is reached nor the resumption condition holds (a SPRAY taken up there
is StarvationAndResumption's), or the DRAIN of the retiring members alone (R97; the raw pump-stopped line, on in DRAIN,
is log 5). Outside a run-down neither event touches the pass. -/
def Obligations.RunDownEnds : Prop :=
  ∀ (c : Instr) (s : State), s.power = .running → (c = .pumpStoppedOn ∨ c = .runDownTimeout) →
    ∃ t, exec c s = .next t
      ∧ (s.pass.phase ≠ .runDown → (c = .pumpStoppedOn → t.panel.level.pumpStopped = true)
          ∧ t.pass = s.pass ∧ t.job = s.job ∧ SameDiuFillFaults s t ∧ SameShare s t
          ∧ SameModule s t ∧ Sending s.line.fifo s t)
      ∧ (s.pass.phase = .runDown → s.pass.dest = some .held →
          t.pass.phase = .held ∧ t.pass.holdTimer = some ((recipeOf s.pass).holdLimit * 1000)
          ∧ t.pass.resumeAt = s.pass.resumeAt ∧ t.pass.spray = s.pass.spray ∧ t.pass.members = s.pass.members
          ∧ t.job = s.job ∧ SameDiuFillFaults s t ∧ SameShare s t ∧ SameModule s t ∧ Sending s.line.fifo s t)
      ∧ (s.pass.phase = .runDown → s.pass.dest = some .drainDown →
          t.pass.phase = .drainDown ∧ t.pass.abortCode = s.pass.abortCode ∧ t.pass.members = s.pass.members
          ∧ t.pass.drainDown = some { left := 120000, interval := 250, seen := false, quiet := 0 }
          ∧ t.job = s.job ∧ SameDiuFillFaults s t ∧ SameShare s t ∧ SameModule s t ∧ Sending s.line.fifo s t)
      ∧ (s.pass.phase = .runDown → s.pass.dest = some .starved → volumeReached s.pass = false →
          resumption s = false →
          t.pass.phase = .starved ∧ t.pass.starveTimer = some ((recipeOf s.pass).starveLimit * 1000)
          ∧ t.pass.spray = s.pass.spray ∧ t.pass.members = s.pass.members
          ∧ t.job = s.job ∧ SameDiuFillFaults s t ∧ SameShare s t ∧ SameModule s t ∧ Sending s.line.fifo s t)
      ∧ (s.pass.phase = .runDown → s.pass.dest = some .drain → s.pass.members ≠ [] →
          (∀ m ∈ s.pass.members, m.retiring.isSome = true) → s.pass.abortCode = none →
          (s.pass.members.map (·.index)).Nodup →
          t.pass.phase = .drain ∧ t.pass.drainList = s.pass.members.map (·.index)
          ∧ t.pass.draining = t.pass.drainList.head? ∧ t.pass.members = s.pass.members
          ∧ t.pass.pendingHold = s.pass.pendingHold
          ∧ t.diu.window.map (fun w => (w.member, w.inspected)) = t.pass.drainList.head?.map (·, false)
          ∧ t.panel.raw.pumpStopped = true ∧ t.job = s.job ∧ t.fill = s.fill ∧ t.faults = s.faults
          ∧ SameModule s t ∧ Sending s.line.fifo s t)

/-! ## Meters and metering -/

/-- R35, R61, R68, R70, R115: one pulse of the supply, the agent or the drain meter. The tally grows while the job is
OPEN or RELEASING, the pass's meter count while a formed pass exists, both saturating; supply and agent pulses join the
spray record in SPRAY (a supply pulse short of the volume target) and in a run-down from it, in every stage kind, drain
pulses the open window's sample to come and the drain-down's account. -/
def Obligations.MeterPulsesCount : Prop :=
  ∀ s : State, s.power = .running →
    ((∀ r, s.pass.phase = .spray → s.pass.spray = some r → r.supply + 1 < volumeTarget s.pass) →
      ∃ t, exec .supplyPulse s = .next t
      ∧ t.job = { s.job with supplyTally := (if s.job.state = .opened ∨ s.job.state = .releasing then
          min 4294967295 (s.job.supplyTally + 1) else s.job.supplyTally) }
      ∧ (¬ formed s.pass → t.pass = s.pass)
      ∧ (formed s.pass → t.pass = { s.pass with
          supplyMeter := min 4294967295 (s.pass.supplyMeter + 1)
          spray := (if s.pass.phase = .spray ∨ (s.pass.phase = .runDown ∧ s.pass.fromSpray = true) then
              s.pass.spray.map (fun r => { r with supply := r.supply + 1 })
              else s.pass.spray) })
      ∧ SameDiuFillFaults s t ∧ t.panel = s.panel ∧ SameShare s t ∧ SameModule s t ∧ Sending s.line.fifo s t)
    ∧ (∃ t, exec .agentPulse s = .next t
      ∧ t.job = { s.job with agentTally := (if s.job.state = .opened ∨ s.job.state = .releasing then
          min 4294967295 (s.job.agentTally + 1) else s.job.agentTally) }
      ∧ (¬ formed s.pass → t.pass = s.pass)
      ∧ (formed s.pass → t.pass = { s.pass with
          agentMeter := min 4294967295 (s.pass.agentMeter + 1)
          spray := (if s.pass.phase = .spray ∨ (s.pass.phase = .runDown ∧ s.pass.fromSpray = true) then
              s.pass.spray.map (fun r => { r with agent := r.agent + 1 })
              else s.pass.spray) })
      ∧ SameDiuFillFaults s t ∧ t.panel = s.panel ∧ SameShare s t ∧ SameModule s t ∧ Sending s.line.fifo s t)
    ∧ (∃ t, exec .drainPulse s = .next t
      ∧ t.job = { s.job with effluentTally := (if s.job.state = .opened ∨ s.job.state = .releasing then
          min 4294967295 (s.job.effluentTally + 1) else s.job.effluentTally) }
      ∧ (¬ formed s.pass → t.pass = s.pass)
      ∧ (formed s.pass → t.pass = { s.pass with
          drainMeter := min 4294967295 (s.pass.drainMeter + 1)
          drainDown := s.pass.drainDown.map (fun d => { d with seen := true, quiet := 0 }) })
      ∧ t.diu = { s.diu with window := s.diu.window.map (fun w => { w with pulses := w.pulses + 1 }) }
      ∧ t.fill = s.fill ∧ t.faults = s.faults ∧ t.panel = s.panel ∧ SameShare s t ∧ SameModule s t
      ∧ Sending s.line.fifo s t)

/-- R68, R73: a SPRAY that reaches its volume target, by SPRAY_VOLUME_REACHED or by the last SUPPLY_PULSE, ends in
DRAIN: every member that is not passed is on the drain list, the first one's outlet opens with a window, and the steady
flag is cleared (R160). Under SPRAY_VOLUME_REACHED the pulses still missing to the target arrive at the tally and the
meter (log 1), and the raw pump-stopped line is on in DRAIN (log 5): the model's choices. -/
def Obligations.SprayEndsInDrainAtItsVolume : Prop :=
  ∀ (c : Instr) (s : State) (r : SprayRecord), s.power = .running → s.pass.phase = .spray →
    s.pass.spray = some r → s.pass.abortCode = none → r.supply < volumeTarget s.pass →
    (c = .sprayVolumeReached ∨ (c = .supplyPulse ∧ r.supply + 1 = volumeTarget s.pass)) →
    unseated s = [] → namedAbsent s = false →
    ∃ t, exec c s = .next t
      ∧ t.pass.phase = .drain ∧ t.pass.spray = none ∧ t.pass.members = s.pass.members
      ∧ t.pass.drainList = (s.pass.members.filter (fun m => !m.passed)).map (·.index)
      ∧ t.pass.draining = t.pass.drainList.head? ∧ t.diu.window.map (·.member) = t.pass.drainList.head?
      ∧ t.diu.clock = 250
      ∧ t.pass.supplyMeter = min 4294967295 (s.pass.supplyMeter + (volumeTarget s.pass - r.supply))
      ∧ t.job = { s.job with supplyTally := (if s.job.state = .opened ∨ s.job.state = .releasing then
          min 4294967295 (s.job.supplyTally + (volumeTarget s.pass - r.supply)) else s.job.supplyTally) }
      ∧ t.panel = { s.panel with raw := { s.panel.raw with pumpStopped := true } }
      ∧ t.outs.sprayPump = false ∧ t.outs.heads = 0 ∧ t.outs.spraySetpoint = 0
      ∧ t.share.steadyFlag = false ∧ t.share.steady = none
      ∧ t.fill = s.fill ∧ t.faults = s.faults ∧ SameModule s t ∧ Sending s.line.fifo s t

/-- R70: while the agent pump runs, the pulses that reach the allowance floor(supply × dose / 200) stop it, and the
SPRAY goes on. That the pulses still missing arrive at the tally, the meter and the spray record under
AGENT_ALLOWANCE_REACHED is the model's choice (log 1). -/
def Obligations.AgentPumpStopsAtItsAllowance : Prop :=
  ∀ (s : State) (r : SprayRecord), s.power = .running → s.pass.spray = some r → agentPumpOn s.pass = true →
    ∃ t, exec .agentAllowanceReached s = .next t
      ∧ t.pass = { s.pass with
          agentMeter := min 4294967295 (s.pass.agentMeter + (r.supply * (stageOf s.pass).dose / 200 - r.agent))
          spray := some { r with agent := r.supply * (stageOf s.pass).dose / 200 } }
      ∧ t.outs.agentPump = false ∧ t.pass.phase = .spray
      ∧ t.job = { s.job with agentTally := (if s.job.state = .opened ∨ s.job.state = .releasing then
          min 4294967295 (s.job.agentTally + (r.supply * (stageOf s.pass).dose / 200 - r.agent))
          else s.job.agentTally) }
      ∧ SameDiuFillFaults s t ∧ t.panel = s.panel ∧ SameShare s t ∧ SameModule s t ∧ Sending s.line.fifo s t

/-- R144 to R146: product pulses. PRODUCT_PULSE is one; FULL_FLOW_CLOSE_POINT and TRIM_CLOSE_POINT are the pulses still
missing to the close point (log 1). At its close point FULL_FLOW gives way to TRIM with the close point of R146, and
TRIM to RUN_ON with cause TARGET and the learn mark; in RUN_ON a pulse is run-on too. -/
def Obligations.ProductPulsesMeterTheFill : Prop :=
  ∀ (c : Instr) (n : Nat) (s : State), s.power = .running →
    (c = .productPulse ∧ n = 1
      ∨ (∃ x, s.fill.ctx = some x ∧ x.count < x.close ∧ n = x.close - x.count
          ∧ (c = .fullFlowClosePoint ∧ x.phase = .fullFlow ∨ c = .trimClosePoint ∧ x.phase = .trim))) →
    ∃ t, exec c s = .next t
      ∧ t.job = { s.job with productTally := (if s.job.state = .opened ∨ s.job.state = .releasing then
          min 4294967295 (s.job.productTally + n) else s.job.productTally) }
      ∧ (s.fill.ctx = none → t.fill = s.fill)
      ∧ t.fill.estimate = s.fill.estimate
      ∧ (∀ x, s.fill.ctx = some x → t.fill.ctx = some (
          if x.phase = .runOn then { x with count := x.count + n, runOn := x.runOn + n, quietMs := 0 }
          else if x.count + n < x.close then { x with count := x.count + n, quietMs := 0 }
          else if x.phase = .fullFlow then
            { x with
                     count := x.count + n, phase := .trim, quietMs := 0
                     close := (if x.count + n + s.fill.estimate < x.remaining then x.remaining - s.fill.estimate
                       else x.count + n + 1) }
          else { x with count := x.count + n, phase := .runOn, cause := some .target, learn := true,
                        quietMs := 0 }))
      ∧ t.pass = s.pass ∧ t.diu = s.diu ∧ t.faults = s.faults ∧ t.panel = s.panel ∧ SameShare s t
      ∧ SameModule s t ∧ Sending s.line.fifo s t

/-- R31, R32, R38, R58, R147, R148, R153: the end of RUN_ON, whatever the pass engine's phase. The unit is IDLE, the
compartment FILLED when the cause is TARGET and what it holds is within tolerance of its target, else PART_FILLED, its
product metered grown and its fill record stored. A FILL_RECORD joins the FIFO; behind it the COMPLETE report of an
OPEN job whose compartments are now all terminal, which is CLOSED and ends a batch still gathering, or the RELEASED
report of a release that waited for this fill with the engine in NONE. The overrun estimate learns exactly when the
learn mark is set, a quarter of the way to the run-on, at most 250; the mark is set by TRIM closing at its close point,
and is clear after a stop and in a fill that began in RUN_ON. -/
def Obligations.RunOnEndsTheFill : Prop :=
  (∀ (s : State) (x : FillCtx), s.power = .running → s.fill.ctx = some x → x.phase = .runOn → FifoBounded s →
    let result : CState :=
      if x.cause = some .target ∧ x.already + x.count + x.tolerance ≥ x.full then .filled else .partFilled
    let record : FillRecord := {
      compartment := x.compartment
      target := ((compartment? s x.compartment).map (·.fillTarget)).getD 0
      metered := x.count
      runOn := x.runOn
      cause := x.cause.getD .target
      result := result }
    let table := s.job.table.map (fun y => if y.index = x.compartment then
      { y with state := result, metered := min 4294967295 (y.metered + x.count), fillRecord := some record } else y)
    let complete := s.job.state = .opened ∧ table.all terminal = true
    let released := s.job.state = .releasing ∧ s.pass.phase = .none
    ∃ t, exec .runOnEnd s = .next t
      ∧ t.fill = { ctx := none, estimate := if x.learn = true then min 250 ((3 * s.fill.estimate + x.runOn) / 4)
                                            else s.fill.estimate }
      ∧ t.outs.fillLamp = .out
      ∧ t.job = { s.job with
          table := table
          state := if complete then .closed else if released then .noJob else s.job.state
          clock := if released then 0 else s.job.clock
          clockSub := if released then 0 else s.job.clockSub }
      ∧ t.line.fifo = joined (.fillRecord (jobTag s) (jobNumber s) record ::
          if complete then [.jobReport (jobNumber s) .complete]
          else if released then [.jobReport (jobNumber s) .released] else []) s
      ∧ t.pass = (if complete ∧ s.pass.phase = .gathering then Pass.idle else s.pass)
      ∧ t.diu = s.diu ∧ t.faults = s.faults ∧ t.panel = s.panel ∧ SameShare s t ∧ SameModule s t)
  ∧ (∀ (e : Nat) (x : FillCtx), x.phase = .trim → x.close ≤ x.count →
      (closeIfReached e x).learn = true ∧ (closeIfReached e x).phase = .runOn)
  ∧ (∀ (e : Nat) (x : FillCtx), (x.phase = .fullFlow ∨ x.count < x.close) → (closeIfReached e x).learn = x.learn)
  ∧ (∀ (cause : FillCause) (s : State) (x : FillCtx), s.fill.ctx = some x → x.phase ≠ .runOn →
      (stopFill cause s).fill.ctx.map (fun y => (y.phase, y.learn)) = some (.runOn, false))
  ∧ (∀ (e : Nat) (c : Compartment), (fillCtxFor e c).learn = false)

/-! ## Drain inspection (chapters 6 and 7) -/

/-- R109 to R112: one sample of one loop. The count is formed at the loop's gain, the reading from count and gain, the
gain for the next sample from the count, the temperature channel keeping its gain; the fourth consecutive sample on the
far side of 3.6 mA changes the presence, an absent channel reads 0 (that the sample which changes the presence already
reads as the new presence says is log 20, the model's reading). Outside FLUSH and DRAIN a DIU_SAMPLE conditions the
three loops and restarts the sample clock, and a change of presence changes the channel alone (that CHANNEL_PRESENT
leaves the reading 0 until the next sample and restarts the run is log 1, the model's choice). R71: in the SPRAY of a
hot stage a sample below the target less 5 °C adds 250 ms to the low-temperature time; at 60 s TEMP_LOW, class 2, is
raised once. -/
def Obligations.SamplesOutsideFlushAndDrain : Prop :=
  (∀ (ch : Channel) (current : Nat) (x : Loop), (x.gain = 1 ∨ x.gain = 2 ∨ x.gain = 4 ∨ x.gain = 8) →
    let count := if current ≤ 4000000 then 0 else min 4095 ((current - 4000000) * x.gain * 4095 / 16000000)
    let y := conditionLoop ch current x
    (ch = .temperature → y.gain = x.gain)
    ∧ (ch ≠ .temperature →
        (y.gain = 1 ∨ y.gain = 2 ∨ y.gain = 4 ∨ y.gain = 8)
        ∧ (3686 ≤ count → 1 < x.gain → 2 * y.gain = x.gain)
        ∧ (count < 1638 → x.gain < 8 → y.gain = 2 * x.gain)
        ∧ ((1638 ≤ count ∨ x.gain = 8) → (count < 3686 ∨ x.gain = 1) → y.gain = x.gain))
    ∧ (decide (current < 3600000) = x.present → x.run < 3 → y.present = x.present ∧ y.run = x.run + 1)
    ∧ (decide (current < 3600000) = x.present → x.run = 3 → y.present = !x.present ∧ y.run = 0)
    ∧ (decide (current < 3600000) ≠ x.present → y.present = x.present ∧ y.run = 0)
    ∧ (y.present = false → y.reading = 0)
    ∧ (y.present = true → y.reading = match ch with
        | .conductivity => count * 625 / (128 * x.gain)
        | .turbidity => count * 125 / (128 * x.gain)
        | .temperature => count * 120 / 4095))
  ∧ (∀ s : State, s.power = .running → s.pass.phase ≠ .flush → s.pass.phase ≠ .drain → s.pass.late = Late.none →
    (∀ iC iT iTemp : Nat,
      let temp := conditionLoop .temperature iTemp s.diu.temp
      ∃ t, exec (.diuSample iC iT iTemp) s = .next t
      ∧ (t.diu.c, t.diu.t, t.diu.temp, t.diu.clock)
          = (conditionLoop .conductivity iC s.diu.c, conditionLoop .turbidity iT s.diu.t, temp, 250)
      ∧ t.panel = { s.panel with loopC := iC, loopT := iT, loopTemp := iTemp }
      ∧ t.job = s.job ∧ t.fill = s.fill ∧ SameModule s t
      ∧ (s.pass.phase ≠ .spray ∨ (stageOf s.pass).hot = false
            ∨ (stageOf s.pass).temperature ≤ temp.reading + 5 →
          t.diu = { s.diu with c := t.diu.c, t := t.diu.t, temp := temp, clock := 250 }
          ∧ t.pass = s.pass ∧ t.faults = s.faults ∧ SameShare s t ∧ Sending s.line.fifo s t)
      ∧ (∀ r, s.pass.phase = .spray → (stageOf s.pass).hot = true → s.pass.spray = some r → s.pass.abortCode = none →
          temp.reading + 5 < (stageOf s.pass).temperature →
          (r.lowMs + 250 < 60000 ∨ r.tempRaised = true →
            t.pass = { s.pass with spray := some { r with lowMs := r.lowMs + 250 } }
            ∧ t.diu = { s.diu with c := t.diu.c, t := t.diu.t, temp := temp, clock := 250 }
            ∧ t.faults = s.faults ∧ SameShare s t ∧ Sending s.line.fifo s t)
          ∧ (60000 ≤ r.lowMs + 250 → r.tempRaised = false → s.faults.record = none → FifoBounded s →
            let f : FaultRec := { kind := .tempLow, source := .pass, compartment := none,
                                  stage := some s.pass.stage, time := s.job.clock }
            t.faults = { record := some f, overflow := s.faults.overflow } ∧ t.line.fifo = joined [.fault f] s
            ∧ (2 ≤ s.pass.tolerance → t.pass = { s.pass with
                spray := some { r with lowMs := r.lowMs + 250, tempRaised := true }
                class2 := s.pass.class2 + 1 })
            ∧ (s.pass.tolerance < 2 → t.pass.abortCode = some .tempLow ∧ t.pass.class2 = s.pass.class2
              ∧ (s.panel.level.pumpStopped = false → t.pass.phase = .runDown ∧ t.pass.dest = some .drainDown)
              ∧ (s.panel.level.pumpStopped = true → t.pass.phase = .drainDown)))))
    ∧ (∀ (c : Instr) (ch : Channel) (lost : Bool),
        ((c = .channelAbsent ch ∧ lost = true) ∨ (c = .channelPresent ch ∧ lost = false)) →
        ∃ t, exec c s = .next t
        ∧ (let change := fun x : Loop => if x.present = lost then
              { x with present := !lost, run := 0, reading := if lost then 0 else x.reading } else x
           t.diu = match ch with
            | .conductivity => { s.diu with c := change s.diu.c }
            | .turbidity => { s.diu with t := change s.diu.t }
            | .temperature => { s.diu with temp := change s.diu.temp })
        ∧ t.job = s.job ∧ t.pass = s.pass ∧ t.fill = s.fill ∧ t.faults = s.faults ∧ t.panel = s.panel
        ∧ SameShare s t ∧ SameModule s t ∧ Sending s.line.fifo s t))

/-- R81, R91, R69, R71, R99: three pass-scope faults under a tolerance level. SENSOR_ABSENT of a named channel in FLUSH
(class 3, in a FINAL_RINSE 1), STAGE_TIME (class 3) and TEMP_LOW (class 2) in SPRAY are recorded with the stage. Not
filtered, each aborts the pass with its code and refreshes BAY_STATUS (R100); the job unit stands. R92: a member that
has left at its retirement in the same ms (log 37, the model's reading) is found retiring, in the pass again with its
code and its compartment WASHING, its outcome due at the end of drain-down. Filtered, it adds 1 to the count of its
class, and the inspection is skipped, the SPRAY ends in DRAIN, the SPRAY goes on. -/
def Obligations.PassFaultsByTolerance : Prop :=
  ∀ (c : Instr) (k : FaultKind) (cls : Nat) (s : State), s.power = .running → s.pass.abortCode = none →
    s.faults.record = none → s.pass.skipped = false → FifoBounded s →
    ((∃ ch, c = .channelAbsent ch ∧ names (stageOf s.pass).inspection ch = true ∧ s.pass.phase = .flush
        ∧ k = .sensorAbsent ∧ cls = if (stageOf s.pass).kind = .finalRinse then 1 else 3)
      ∨ (c = .stageTime ∧ s.pass.phase = .spray ∧ s.pass.spray.isSome = true ∧ k = .stageTime ∧ cls = 3)
      ∨ (c = .tempLow ∧ s.pass.phase = .spray ∧ (∃ r, s.pass.spray = some r ∧ r.tempRaised = false)
          ∧ (stageOf s.pass).hot = true ∧ k = .tempLow ∧ cls = 2)) →
    let f : FaultRec := { kind := k, source := .pass, compartment := none, stage := some s.pass.stage,
                          time := s.job.clock }
    ∃ t, exec c s = .next t
      ∧ (filtered s.pass.tolerance cls = false →
          t.faults.record = some f ∧ t.line.fifo = joined [.fault f] s ∧ t.fill = s.fill
          ∧ (s.pass.late.left = [] → t.job = s.job)
          ∧ (∀ x : Left, s.pass.late.left = [x] →
              t.pass.members = (insertMember x.member s.pass.members).map
                (fun m => { m with passed := false, signature := none })
              ∧ t.pass.departed = s.pass.departed.filter (fun r => r.index != x.member.index)
              ∧ t.job = { s.job with table := s.job.table.map (fun c =>
                  if c.index = x.member.index then { c with state := .washing, keyMark := x.mark } else c) })
          ∧ t.line.statusTimer = some 10000
          ∧ t.pass.abortCode = some k.code ∧ (t.pass.class2, t.pass.class3) = (s.pass.class2, s.pass.class3)
          ∧ t.diu.histories = [] ∧ t.diu.window = none ∧ t.share.steadyFlag = false
          ∧ (s.panel.level.pumpStopped = false → t.pass.phase = .runDown ∧ t.pass.dest = some .drainDown)
          ∧ (s.panel.level.pumpStopped = true → t.pass.phase = .drainDown))
      ∧ (filtered s.pass.tolerance cls = true → k ≠ .stageTime →
          t.faults.record = some f ∧ t.line.fifo = joined [.fault f] s ∧ t.job = s.job ∧ t.fill = s.fill
          ∧ t.pass.abortCode = none ∧ t.pass.phase = s.pass.phase ∧ t.pass.members = s.pass.members
          ∧ (t.pass.class2, t.pass.class3) = (if cls = 2 then (s.pass.class2 + 1, s.pass.class3)
              else (s.pass.class2, s.pass.class3 + 1))
          ∧ (k = .sensorAbsent → t.pass.skipped = true ∧ t.diu.baseC = none ∧ t.diu.baseT = none
              ∧ t.diu.flushC = ⟨0, 0⟩ ∧ t.diu.flushT = ⟨0, 0⟩)
          ∧ (k = .tempLow → t.pass.skipped = false ∧ t.diu = s.diu
              ∧ t.pass.spray.map (·.tempRaised) = some true))
      ∧ (filtered s.pass.tolerance cls = true → k = .stageTime → unseated s = [] → namedAbsent s = false →
          sprayingMembers s.pass ≠ [] →
          t.faults.record = some f ∧ t.line.fifo = joined [.fault f] s ∧ t.job = s.job ∧ t.fill = s.fill
          ∧ t.pass.abortCode = none ∧ t.pass.phase = .drain ∧ t.pass.members = s.pass.members
          ∧ t.pass.drainList = (s.pass.members.filter (fun m => !m.passed)).map (·.index)
          ∧ (t.pass.class2, t.pass.class3) = (s.pass.class2, s.pass.class3 + 1))

/-- R113: the flush record of each channel the stage names, COND, TURB or BOTH. A sample in FLUSH adds its reading
until the record holds 8, and the eighth forms the baseline floor(sum / 8); BASELINE_FORMED forms it with the samples
still missing at the present reading (the model's choice, log 21). Outside FLUSH, with the inspection skipped or for a
channel not named, BASELINE_FORMED changes nothing. -/
def Obligations.FlushFormsTheBaseline : Prop :=
  ∀ s : State, s.power = .running →
    (∀ iC iT iTemp : Nat, s.pass.abortCode = none → s.pass.phase = .flush → s.pass.skipped = false →
      let n := (stageOf s.pass).inspection
      let loopC := conditionLoop .conductivity iC s.diu.c
      let loopT := conditionLoop .turbidity iT s.diu.t
      let taken := fun (named : Bool) (f g : FlushRec) (a b : Option Nat) (reading : Nat) =>
        (named = false ∨ 8 < f.count → g = f ∧ (named = false → b = a))
        ∧ (named = true → f.count < 7 → g = ⟨f.count + 1, f.sum + reading⟩ ∧ b = a)
        ∧ (named = true → f.count = 7 → g = ⟨8, f.sum + reading⟩ ∧ b = some ((f.sum + reading) / 8))
        ∧ (named = true → f.count = 8 → g = f)
      (n = .cond ∨ n = .both → loopC.present = true) → (n = .turb ∨ n = .both → loopT.present = true) →
      ∃ t, exec (.diuSample iC iT iTemp) s = .next t
        ∧ t.diu.c = loopC ∧ t.diu.t = loopT ∧ t.diu.clock = 250
        ∧ taken (decide (n = .cond ∨ n = .both)) s.diu.flushC t.diu.flushC s.diu.baseC t.diu.baseC loopC.reading
        ∧ taken (decide (n = .turb ∨ n = .both)) s.diu.flushT t.diu.flushT s.diu.baseT t.diu.baseT loopT.reading
        ∧ t.pass = s.pass ∧ t.job = s.job ∧ t.fill = s.fill ∧ t.faults = s.faults ∧ SameShare s t)
    ∧ (∀ ch, ∃ t, exec (.baselineFormed ch) s = .next t
        ∧ t.pass = s.pass ∧ t.job = s.job ∧ t.fill = s.fill ∧ t.faults = s.faults ∧ t.panel = s.panel
        ∧ SameShare s t ∧ SameModule s t ∧ Sending s.line.fifo s t
        ∧ (s.pass.phase ≠ .flush ∨ s.pass.skipped = true ∨ names (stageOf s.pass).inspection ch = false →
            t.diu = s.diu)
        ∧ (s.pass.phase = .flush → s.pass.skipped = false → names (stageOf s.pass).inspection ch = true →
            (ch = .conductivity → s.diu.flushC.count ≤ 8 →
              t.diu.baseC = some ((s.diu.flushC.sum + (8 - s.diu.flushC.count) * s.diu.c.reading) / 8)
              ∧ t.diu.flushC.count = 8 ∧ t.diu.baseT = s.diu.baseT ∧ t.diu.flushT = s.diu.flushT)
            ∧ (ch = .turbidity → s.diu.flushT.count ≤ 8 →
              t.diu.baseT = some ((s.diu.flushT.sum + (8 - s.diu.flushT.count) * s.diu.t.reading) / 8)
              ∧ t.diu.flushT.count = 8 ∧ t.diu.baseC = s.diu.baseC ∧ t.diu.flushC = s.diu.flushC)))

/-- R64, R66, R96, R160: the flush time's expiry enters SPRAY with an empty spray record: the pump runs, the spraying
members are wetted and a FINAL_RINSE sets the steady flag for 120 s; with the starvation condition holding it is a
run-down toward STARVED instead, or STARVED with the pump-stopped line on. Outside FLUSH it does nothing. That the raw
pump-stopped line goes off at the pump's start is log 5, and that starvation is looked at before the pump and the lines
(no member wetted, no head looked at) log 14: the model's readings. The second clause is stated with every head seated
and probe dry. -/
def Obligations.FlushEndsInSpray : Prop :=
  ∀ s : State, s.power = .running →
    (s.pass.phase ≠ .flush → ∃ t, exec .flushTimeExpiry s = .next t
      ∧ t.pass = s.pass ∧ t.job = s.job ∧ SameDiuFillFaults s t ∧ t.panel = s.panel ∧ SameShare s t
      ∧ SameModule s t ∧ Sending s.line.fifo s t)
    ∧ (s.pass.phase = .flush → starvation s = false → unseated s = [] → flooded s = [] →
        s.pass.abortCode = none → 0 < volumeTarget s.pass → ∃ t, exec .flushTimeExpiry s = .next t
      ∧ t.pass.phase = .spray ∧ t.pass.flushLeft = 0
      ∧ t.pass.spray = some { supply := 0, agent := 0, timeMs := 0, lowMs := 0, tempRaised := false }
      ∧ t.pass.members = s.pass.members.map (fun m =>
          if m.passed = false ∧ m.retiring = none then { m with wetted := true } else m)
      ∧ t.panel = { s.panel with raw := { s.panel.raw with pumpStopped := false } } ∧ t.outs.bypass = false
      ∧ ((stageOf s.pass).kind = .finalRinse → t.share.steadyFlag = true ∧ t.share.steady = some 120000)
      ∧ ((stageOf s.pass).kind ≠ .finalRinse →
          t.share.steadyFlag = s.share.steadyFlag ∧ t.share.steady = s.share.steady)
      ∧ t.job = s.job ∧ t.fill = s.fill ∧ t.faults = s.faults ∧ SameModule s t ∧ Sending s.line.fifo s t)
    ∧ (s.pass.phase = .flush → starvation s = true → ∃ t, exec .flushTimeExpiry s = .next t
      ∧ t.pass.spray = some { supply := 0, agent := 0, timeMs := 0, lowMs := 0, tempRaised := false }
      ∧ t.pass.members = s.pass.members ∧ t.outs.sprayPump = false ∧ t.outs.bypass = false
      ∧ (s.panel.level.pumpStopped = false →
          t.pass.phase = .runDown ∧ t.pass.dest = some .starved ∧ t.pass.runDown = some 5000)
      ∧ (s.panel.level.pumpStopped = true →
          t.pass.phase = .starved ∧ t.pass.starveTimer = some ((recipeOf s.pass).starveLimit * 1000))
      ∧ t.job = s.job ∧ t.fill = s.fill ∧ t.faults = s.faults ∧ t.panel = s.panel ∧ SameModule s t
      ∧ Sending s.line.fifo s t)

/-- R8, R73, R115 to R117, R124: an inspected window. At its opening (windowFor) it inspects the channels the stage
names, with the volume, the window maximum and the parameters of the channels the recipe inspects, a probe's with none.
A DIU_SAMPLE in DRAIN adds to each inspected channel the excess over the baseline times the pulses since the last
sample, raises the peak, sets the saturated mark of a full count at gain 1, and goes on with the pulse account; the end
cause is the first of DRAINED (12 samples without a pulse after the first), NO_FLOW (40 samples without one) and
OVERTIME (the window maximum). With no cause the window stands so; with one it is closed into its member's histories,
its turn ends, and the engine takes its report and goes on: the functions that FinalRinseReportDecides,
FinalRinseRunEnds, ProbeIsIdentifiedOrRetired and DeclaredClassIsVerified speak of. (Stated with the named channels
present: an absent one raises SENSOR_ABSENT; and with no TEMP_LOW of the SPRAY still to come in the ms of a retirement
that has ended it, log 34.) -/
def Obligations.InspectedWindowTakesItsSamples : Prop :=
  (∀ (i : Nat) (m : Member) (s : State), member? s.pass i = some m → m.retiring = none → s.pass.skipped = false →
    let n := (stageOf s.pass).inspection
    let fresh : ChannelWin := { acc := 0, peak := 0, sat := false }
    windowFor i s = {
      member := i
      inspected := decide (n ≠ .none)
      c := if n = .cond ∨ n = .both then some fresh else none
      t := if n = .turb ∨ n = .both then some fresh else none
      volume := ((compartment? s i).map (·.volume)).getD 0
      paramsC := if n ≠ .none ∧ s.pass.probe = false
          ∧ (∃ g ∈ (recipeOf s.pass).stages, g.inspection = .cond ∨ g.inspection = .both)
        then some (recipeOf s.pass).c else none
      paramsT := if n ≠ .none ∧ s.pass.probe = false
          ∧ (∃ g ∈ (recipeOf s.pass).stages, g.inspection = .turb ∨ g.inspection = .both)
        then some (recipeOf s.pass).t else none
      maxSamples := 4 * windowMaximum s.pass
      sample := 0
      firstPulse := false
      zeroRun := 0
      drained := 0
      pulses := 0 })
  ∧ (∀ (iC iT iTemp : Nat) (s : State) (w : Window), s.power = .running → s.pass.phase = .drain →
    s.pass.abortCode = none → s.pass.late.low = none → s.diu.window = some w →
    let sampled : Diu := { s.diu with
      c := conditionLoop .conductivity iC s.diu.c, t := conditionLoop .turbidity iT s.diu.t
      temp := conditionLoop .temperature iTemp s.diu.temp, clock := 250 }
    (names (stageOf s.pass).inspection .conductivity = true → sampled.c.present = true) →
    (names (stageOf s.pass).inspection .turbidity = true → sampled.t.present = true) →
    let eC := sampled.c.reading - s.diu.baseC.getD 0
    let eT := sampled.t.reading - s.diu.baseT.getD 0
    let x : Window := { w with
      c := w.c.map (fun a => { acc := min 4294967295 (a.acc + eC * w.pulses), peak := max a.peak eC
                               sat := a.sat || (decide (s.diu.c.gain = 1) && decide (loopCount 1 iC = 4095)) })
      t := w.t.map (fun a => { acc := min 4294967295 (a.acc + eT * w.pulses), peak := max a.peak eT
                               sat := a.sat || (decide (s.diu.t.gain = 1) && decide (loopCount 1 iT = 4095)) })
      sample := w.sample + 1
      firstPulse := w.firstPulse || decide (0 < w.pulses)
      zeroRun := if 0 < w.pulses then 0 else if w.firstPulse = true then w.zeroRun + 1 else w.zeroRun
      drained := w.drained + w.pulses
      pulses := 0 }
    let ended : Option EndCause := if 12 ≤ x.zeroRun then some .drained
      else if x.sample = 40 ∧ x.firstPulse = false then some .noFlow
      else if x.sample = x.maxSamples then some .overtime else none
    let u : State := { s with
      panel := { s.panel with loopC := iC, loopT := iT, loopTemp := iTemp }, diu := sampled }
    (ended = none → ∃ t, exec (.diuSample iC iT iTemp) s = .next t
      ∧ t.diu = { sampled with window := some x } ∧ t.panel = u.panel ∧ t.pass = s.pass ∧ t.job = s.job
      ∧ t.fill = s.fill ∧ t.faults = s.faults ∧ SameShare s t ∧ SameModule s t ∧ Sending s.line.fifo s t)
    ∧ (∀ e, ended = some e → exec (.diuSample iC iT iTemp) s
        = .next (conclude s (afterWindow (takeReport x e (endTurn x.member (closeRecord x u)))))))

/-- R73, R96, R117, R119, R122, R123, R126: a DIU_SAMPLE that ends a window of a WASH or a RINSE, inspected or not,
with a further member on the drain list and no HOLD pending. The member's histories take one entry of each inspected
channel, its residue mass. A window that ended DRAINED raises nothing; one that ended NO_FLOW or OVERTIME raises
DRAIN_SLOW, class 3, against the member: filtered it adds 1 to the member's own count, else the member leaves at once,
REJECTED. A member already retiring leaves at its window's end with its own code, whatever the cause. The next member's
window opens. (Stated with the named channels present and no TEMP_LOW still to come in the ms of a retirement, log 34.)
-/
def Obligations.WindowsEndByTheirCauses : Prop :=
  ∀ (iC iT iTemp i j : Nat) (rest : List Nat) (e : EndCause) (s : State) (w : Window) (m : Member),
    s.power = .running → s.pass.phase = .drain → s.pass.abortCode = none → s.pass.pendingHold = false →
    s.pass.late.low = none → s.diu.window = some w → w.member = i → member? s.pass i = some m → FifoBounded s → s.faults.record = none →
    (stageOf s.pass).kind = .wash ∨ (stageOf s.pass).kind = .rinse →
    s.pass.drainList = i :: j :: rest → (i :: j :: rest).Nodup → (∃ y ∈ s.pass.members, y.index = j) →
    (∃ y ∈ s.job.table, y.index ≠ i ∧ terminal y = false) →
    let sampled : Diu := { s.diu with
      c := conditionLoop .conductivity iC s.diu.c, t := conditionLoop .turbidity iT s.diu.t
      temp := conditionLoop .temperature iTemp s.diu.temp, clock := 250 }
    (names (stageOf s.pass).inspection .conductivity = true → sampled.c.present = true) →
    (names (stageOf s.pass).inspection .turbidity = true → sampled.t.present = true) →
    let x := windowSample (saturated s.diu.c.gain iC) (saturated s.diu.t.gain iT) { s with diu := sampled } w
    x.endCause = some e →
    let mass := fun (p : Option ChannelParams) (y : Option ChannelWin) => match p, y with
      | some q, some a => [min 4294967295 (a.acc * q.k / 4096)]
      | _, _ => []
    let histories := s.diu.histories.map (fun h => if h.index = i then
      { h with c := h.c ++ mass w.paramsC x.c, t := h.t ++ mass w.paramsT x.t } else h)
    let slow : FaultRec := { kind := .drainSlow, source := .pass, compartment := some i, stage := some s.pass.stage,
                             time := s.job.clock }
    let dried := s.pass.members.map (fun y => if y.index = i then { y with wetted := false } else y)
    let left := fun (code : Code) (t : State) =>
      t.pass.members = s.pass.members.filter (fun y => y.index != i)
      ∧ t.pass.departed = insertResult { index := i, outcome := .retired code, own := m.own } s.pass.departed
      ∧ t.diu.histories = s.diu.histories.filter (fun h => h.index != i)
      ∧ t.job = { s.job with table := s.job.table.map (fun y => if y.index = i then
          (match code.outcome with
            | .transient => { y with state := m.ckState, lastClass := m.ckClass, keyMark := .none }
            | .persistent => { y with state := .rejected, keyMark := .none }
            | .withdrawn => { y with keyMark := .none }) else y) }
    ∃ t, exec (.diuSample iC iT iTemp) s = .next t
      ∧ t.pass.phase = .drain ∧ t.pass.drainList = j :: rest ∧ t.pass.draining = some j
      ∧ t.diu.window = some (windowFor j s) ∧ t.diu.clock = 250 ∧ t.pass.stage = s.pass.stage
      ∧ t.fill = s.fill ∧ SameShare s t ∧ SameModule s t
      ∧ (m.retiring = none → e = .drained →
          t.pass.members = dried ∧ t.diu.histories = histories ∧ t.job = s.job ∧ t.faults = s.faults
          ∧ Sending s.line.fifo s t)
      ∧ (m.retiring = none → e ≠ .drained →
          t.faults = { record := some slow, overflow := s.faults.overflow } ∧ Sending (joined [.fault slow] s) s t
          ∧ (1 ≤ s.pass.tolerance → t.job = s.job ∧ t.diu.histories = histories
              ∧ t.pass.members = dried.map (fun y => if y.index = i then { y with own := y.own + 1 } else y))
          ∧ (s.pass.tolerance = 0 → left .drainSlow t))
      ∧ (∀ code, m.retiring = some code → left code t ∧ t.faults = s.faults ∧ Sending s.line.fifo s t)

/-- R73, R75, R82, R117: the end of an uninspected window in a stage without inspection, water having flowed, with a
further member on the drain list. The outlet closes and the member's turn is over, its wetted mark cleared; the next
member's window opens, or with a HOLD pending the pass is HELD with the drain list kept. (The command's cause, DRAINED,
and its one sample are the model's choice, log 22; stated with no TEMP_LOW still to come in the ms of a retirement, log
34.) -/
def Obligations.DrainWindowEndGoesOn : Prop :=
  ∀ (i j : Nat) (rest : List Nat) (s : State) (w : Window) (m : Member), s.power = .running →
    s.pass.phase = .drain → s.diu.window = some w → w.member = i → w.inspected = false → s.pass.abortCode = none →
    s.pass.late.low = none →
    w.firstPulse = true ∨ 0 < w.pulses → w.sample + 1 ≠ w.maxSamples → (stageOf s.pass).inspection = .none →
    s.pass.drainList = i :: j :: rest → (i :: j :: rest).Nodup → member? s.pass i = some m → m.retiring = none →
    ∃ t, exec (.drainWindowEnd i) s = .next t
      ∧ t.pass.members = s.pass.members.map (fun x => if x.index = i then { x with wetted := false } else x)
      ∧ t.pass.drainList = j :: rest ∧ t.pass.stage = s.pass.stage
      ∧ (s.pass.pendingHold = false → t.pass.phase = .drain ∧ t.pass.draining = some j
          ∧ t.diu.clock = 250 ∧ t.diu.window.map (fun x => (x.member, x.inspected, x.sample, x.drained, x.maxSamples))
              = some (j, false, 0, 0, 4 * windowMaximum s.pass))
      ∧ (s.pass.pendingHold = true → allRetiring s.pass = false →
          t.pass.phase = .held ∧ t.pass.draining = none ∧ t.pass.resumeAt = some .drain
          ∧ t.pass.pendingHold = false ∧ t.pass.holdTimer = some ((recipeOf s.pass).holdLimit * 1000)
          ∧ t.diu.window = none)
      ∧ t.job = s.job ∧ t.fill = s.fill ∧ t.faults = s.faults ∧ t.panel = s.panel ∧ SameShare s t
      ∧ SameModule s t ∧ Sending s.line.fifo s t

/-- R80, R132 to R135, R30: the end of a probe's one window, DRAINED. Its signature is floor(P_T × 256 / max(1, P_C)),
at most 65,535, usable unless no pulse drained or a channel saturated; the candidates are the enabled classes of the
detect mask whose range holds it. With a usable signature and one candidate the pass is COMPLETE, the member IDENTIFIED
and its compartment SOILED under the recipe for the pair, or BARRED; else the member retires CLASS_UNRESOLVED, or
SENSOR_ABSENT where the inspection was skipped, its compartment is REJECTED with its last class kept, and the pass ends
ALL_RETIRED. The PASS_RESULT joins the FIFO and the engine is in NONE; no fault is raised. (The function that a
DIU_SAMPLE or DRAIN_WINDOW_END runs at the window's end: InspectedWindowTakesItsSamples.) -/
def Obligations.ProbeIsIdentifiedOrRetired : Prop :=
  ∀ (w : Window) (m : Member) (s : State), FifoBounded s → s.pass.phase = .drain → s.pass.abortCode = none →
    s.pass.probe = true → (stageOf s.pass).kind = .preRinse → s.pass.members = [m] → w.member = m.index →
    m.retiring = none → m.signature = none → s.pass.drainList = [m.index] →
    let u := afterWindow (takeReport w .drained (endTurn m.index (closeRecord w s)))
    let ends := fun (o : PassOutcome) (entry : MemberOutcome) (record : Compartment → Compartment) =>
      u.pass = Pass.idle ∧ u.faults = s.faults ∧ u.diu.histories = [] ∧ u.diu.window = none
      ∧ u.job.table = s.job.table.map (fun y => if y.index = m.index then record y else y)
      ∧ (∃ r rest, u.line.fifo = joined (.passResult r :: rest) s ∧ r.outcome = o ∧ r.number = s.pass.number
          ∧ r.members = insertResult { index := m.index, outcome := entry, own := m.own } s.pass.departed
          ∧ (rest = [] ∨ rest = [.jobReport (jobNumber s) .complete] ∨ rest = [.jobReport (jobNumber s) .released]))
    let rejected := fun y : Compartment => { y with state := .rejected, keyMark := .none }
    (w.inspected = false → ends .allRetired (.retired .sensorAbsent) rejected)
    ∧ (∀ a b, w.inspected = true → w.c = some a → w.t = some b →
        let g := min 65535 (b.peak * 256 / max 1 a.peak)
        let found := fun c : Nat => 1 ≤ c ∧ c ≤ 15 ∧ classEnabled s c = true ∧ (detectMask s).getLsbD c = true
          ∧ ∃ e, class? s c = some e ∧ e.sigLow ≤ g ∧ g ≤ e.sigHigh
        let usable := w.drained ≠ 0 ∧ a.sat = false ∧ b.sat = false
        (∀ c, usable → found c → (∀ d, found d → d = c) →
          ends .complete (.identified c) (fun y => match recipeForPair s c y.nextClass with
            | some n => { y with lastClass := c, recipe := some n, state := .soiled, keyMark := .none }
            | none => { y with lastClass := c, state := .barred, keyMark := .none }))
        ∧ (¬ usable ∨ (∀ c, ¬ found c) ∨ (∃ c d, found c ∧ found d ∧ c ≠ d) →
          ends .allRetired (.retired .classUnresolved) rejected))

/-- R136 to R138: verification. A normal pass of a job with the verify flag marks its members verify-pending at its
formation, a probe pass none. At the report of an inspected PRE_RINSE BOTH window that ended DRAINED, a member with the
mark loses it; a usable signature outside the range of its declared class raises CLASS_MISMATCH, class 1: recorded, and
the member leaves at once, its compartment REJECTED with its last class and recipe kept. Within the range, or not
usable, the member goes on. A member without the mark, or a window uninspected, is not checked. (takeReport is what a
DIU_SAMPLE or DRAIN_WINDOW_END runs at the window's end: InspectedWindowTakesItsSamples.) -/
def Obligations.DeclaredClassIsVerified : Prop :=
  (∀ (s : State) (b : BatchMember) (r : JobRecord), s.job.record = some r →
    (formMember s b).verify = (r.verify && !s.pass.probe))
  ∧ (∀ (w : Window) (m : Member) (y : Compartment) (s : State), s.pass.phase = .drain → s.pass.abortCode = none →
    s.pass.probe = false → (stageOf s.pass).kind = .preRinse → (stageOf s.pass).inspection = .both →
    member? s.pass w.member = some m → m.retiring = none → compartment? s w.member = some y →
    let u := takeReport w .drained s
    let cleared := s.setPass { s.pass with
      members := s.pass.members.map (fun x => if x.index = w.member then { x with verify := false } else x) }
    (w.inspected = false ∨ m.verify = false → u = s)
    ∧ (∀ a b e, w.inspected = true → m.verify = true → w.c = some a → w.t = some b →
        class? s y.lastClass = some e →
        let g := min 65535 (b.peak * 256 / max 1 a.peak)
        let usable := w.drained ≠ 0 ∧ a.sat = false ∧ b.sat = false
        (¬ usable ∨ (e.sigLow ≤ g ∧ g ≤ e.sigHigh) → u = cleared)
        ∧ (usable → (g < e.sigLow ∨ e.sigHigh < g) → s.faults.record = none → FifoBounded s →
            (∃ x ∈ s.job.table, x.index ≠ w.member ∧ terminal x = false) →
            let f : FaultRec := { kind := .classMismatch, source := .pass, compartment := some w.member,
                                  stage := some s.pass.stage, time := s.job.clock }
            u.faults = { record := some f, overflow := s.faults.overflow } ∧ u.line.fifo = joined [.fault f] s
            ∧ u.pass.members = s.pass.members.filter (fun x => x.index != w.member)
            ∧ u.pass.departed = insertResult
                { index := w.member, outcome := .retired .classMismatch, own := m.own } s.pass.departed
            ∧ u.job.table = s.job.table.map (fun x => if x.index = w.member then
                { x with state := .rejected, keyMark := .none } else x)
            ∧ u.diu.histories = s.diu.histories.filter (fun h => h.index != w.member))))

/-- R121: the channel verdict, by the first row that applies, with the residue mass of R119 and the limit of R120. -/
def Obligations.ChannelVerdictByItsTable : Prop :=
  ∀ (p : ChannelParams) (volume drained : Nat) (x : ChannelWin),
    let mass := min 4294967295 (x.acc * p.k / 4096)
    let limit := p.limit * volume / 1000
    let verdict := channelVerdict p volume drained x
    (verdict = .noData ↔ drained = 0)
    ∧ (verdict = .dirty ↔ drained ≠ 0 ∧ (x.sat = true ∨ p.dirty < x.peak))
    ∧ (verdict = .clear ↔ drained ≠ 0 ∧ ¬ (x.sat = true ∨ p.dirty < x.peak) ∧ x.peak ≤ p.clear ∧ mass ≤ limit)
    ∧ (verdict = .marginal ↔ drained ≠ 0 ∧ ¬ (x.sat = true ∨ p.dirty < x.peak)
        ∧ (p.clear < x.peak ∨ limit < mass))

/-- R129: the forecast of a channel predicted on. With a previous mass of 0, or a falling ratio of 65,536 or more, it
is NEVER; else it is the least number n of 1 to 16 of steps x ← floor(x × q / 65,536) from the last mass that brings it
to the limit, and NEVER when 16 do not. -/
def Obligations.ForecastIsTheLeastCountOfRuns : Prop :=
  ∀ last prev limit : Nat, limit < last →
    let q := last * 65536 / prev
    let step := fun x : Nat => x * q / 65536
    (prev = 0 ∨ 65536 ≤ q → forecastOf last prev limit = .never)
    ∧ (prev ≠ 0 → q < 65536 →
        (∀ n, forecastOf last prev limit = .runs n ↔
          1 ≤ n ∧ n ≤ 16 ∧ Nat.iterate step n last ≤ limit ∧ ∀ k, k < n → limit < Nat.iterate step k last)
        ∧ (forecastOf last prev limit = .never ↔ ∀ k, k ≤ 16 → limit < Nat.iterate step k last))

/-- R74, R122, R123, R127, R128, R130: the report of an inspected FINAL_RINSE window that ended DRAINED, for a member
that is not retiring. CLEAR passes the member; any other verdict leaves it for a further run when the prediction can be
met in the runs remaining, and else retires it RESIDUE_PERSISTS, leaving the pass at once with its compartment
REJECTED. The member verdict of two channels is the worse of the two. The prediction looks at the channels of the
window whose last mass is above the member's limit; one with a single entry gives none; of two forecasts NEVER, else
the larger count stands (what a forecast is, R129: ForecastIsTheLeastCountOfRuns). The member that leaves is noted for
an abort of the same ms (R131, log 37, the model's reading). -/
def Obligations.FinalRinseReportDecides : Prop :=
  (∀ (w : Window) (m : Member) (v : Verdict) (s : State), (stageOf s.pass).kind = .finalRinse →
    w.inspected = true → member? s.pass w.member = some m → m.retiring = none → memberVerdict w = some v →
    (v = .clear → takeReport w .drained s = s.setPass { s.pass with
        members := s.pass.members.map (fun x => if x.index = w.member then { x with passed := true } else x) })
    ∧ (v ≠ .clear → hopeless (prediction w s) ((stageOf s.pass).repeatLimit - s.pass.repeats) = false →
        takeReport w .drained s = s)
    ∧ (v ≠ .clear → hopeless (prediction w s) ((stageOf s.pass).repeatLimit - s.pass.repeats) = true →
        (∀ x ∈ (takeReport w .drained s).pass.members, x.index ≠ w.member)
        ∧ (∀ x ∈ (takeReport w .drained s).job.table, x.index = w.member → x.state = .rejected)
        ∧ (∀ h ∈ (takeReport w .drained s).diu.histories, h.index ≠ w.member)
        ∧ (s.pass.phase = .drain → (takeReport w .drained s).pass.late.left = s.pass.late.left
            ++ [{ member := { m with retiring := some .residuePersists, passed := false }
                  mark := keyMarkOf s w.member }])))
  ∧ (∀ (p : Option ChannelParams) (x : Option ChannelWin) (volume : Nat) (l : List Nat),
    (p = none ∨ x = none ∨ l.length < 2 → windowForecast p x volume l = none)
    ∧ (∀ q y l' prev last, p = some q → x = some y → l = l' ++ [prev, last] →
        windowForecast p x volume l =
          if q.limit * volume / 1000 < last then some (forecastOf last prev (q.limit * volume / 1000)) else none))
  ∧ (∀ (w : Window) (h : History) (s : State), s.diu.histories.find? (fun h => h.index == w.member) = some h →
    let a := windowForecast w.paramsC w.c w.volume h.c
    let b := windowForecast w.paramsT w.t w.volume h.t
    (a = some .never ∨ b = some .never → prediction w s = some .never)
    ∧ (∀ m n, a = some (.runs m) → b = some (.runs n) → prediction w s = some (.runs (max m n)))
    ∧ (∀ n, (a = some (.runs n) ∧ b = none) ∨ (a = none ∧ b = some (.runs n)) → prediction w s = some (.runs n))
    ∧ (a = none → b = none → prediction w s = none))
  ∧ (∀ remaining n : Nat, hopeless (some .never) remaining = true ∧ hopeless none remaining = false
    ∧ (hopeless (some (.runs n)) remaining = true ↔ remaining < n))
  ∧ (∀ a b : Verdict, (worse a b = a ∨ worse a b = b) ∧ a.rank ≤ (worse a b).rank ∧ b.rank ≤ (worse a b).rank)

/-- R62, R75, R82, R98: the end of a FINAL_RINSE run of a normal pass, when its last window has been reported. With
every member passed the next step is the following stage, a DRY, or the commit; with unpassed members and repeats
remaining it is a further run, begun by its FLUSH, the repeat count up by 1 and passed members kept. A HOLD pending
then makes the pass HELD with resume point NEXT. At the repeat limit the unpassed members retire RESIDUE_PERSISTS and
leave at once, their compartments REJECTED: the passed ones go on to the next step, and with none the pass ends
ALL_RETIRED. (afterWindow is what a DIU_SAMPLE or DRAIN_WINDOW_END runs at the window's end:
InspectedWindowTakesItsSamples; the FLUSH is stated with the unseated list empty and the channels present.) -/
def Obligations.FinalRinseRunEnds : Prop :=
  ∀ s : State, s.pass.phase = .drain → s.pass.drainList = [] → s.pass.members ≠ [] → s.pass.probe = false →
    s.pass.abortCode = none → (stageOf s.pass).kind = .finalRinse → (s.pass.members.map (·.index)).Nodup →
    (∀ m ∈ s.pass.members, m.retiring = none) → FifoBounded s →
    let u := afterWindow s
    let passed := s.pass.members.filter (·.passed)
    let unpassed := s.pass.members.filter (fun m => !m.passed)
    let atLimit := (stageOf s.pass).repeatLimit ≤ s.pass.repeats
    let rejected := s.job.table.map (fun x => if unpassed.any (fun m => m.index == x.index) = true then
      { x with state := .rejected, keyMark := .none } else x)
    (∀ g, unpassed = [] → (recipeOf s.pass).stages[s.pass.stage]? = some g → g.kind = .dry →
      (s.pass.pendingHold = false → u.pass.phase = .dry ∧ u.pass.stage = s.pass.stage + 1
        ∧ u.pass.dryLeft = g.timeLimit * 1000 ∧ u.pass.members = s.pass.members
        ∧ u.pass.repeats = s.pass.repeats ∧ u.job = s.job ∧ u.diu = s.diu ∧ u.faults = s.faults
        ∧ u.line.fifo = s.line.fifo)
      ∧ (s.pass.pendingHold = true → u = s.setPass { s.pass with
          phase := .held, resumeAt := some .next, nextStep := some .following, pendingHold := false, dest := none
          runDown := none, fromSpray := false, holdTimer := some ((recipeOf s.pass).holdLimit * 1000) }))
    ∧ (unpassed = [] → (recipeOf s.pass).stages.length ≤ s.pass.stage →
      u.pass = Pass.idle ∧ (∃ r rest, u.line.fifo =
          joined (.passResult r :: s.pass.members.map (fun m => certificateNotice m s) ++ rest) s
        ∧ r.outcome = .complete
        ∧ (rest = [] ∨ rest = [.jobReport (jobNumber s) .complete] ∨ rest = [.jobReport (jobNumber s) .released])))
    ∧ (unpassed ≠ [] → ¬ atLimit → s.pass.pendingHold = false → unseated s = [] → s.diu.c.present = true →
      s.diu.t.present = true → 3600000 ≤ s.panel.loopC → 3600000 ≤ s.panel.loopT →
      u.pass.phase = .flush ∧ u.pass.flushLeft = 2000 ∧ u.pass.stage = s.pass.stage
      ∧ u.pass.repeats = s.pass.repeats + 1 ∧ u.pass.skipped = false ∧ u.pass.members = s.pass.members
      ∧ u.diu.baseC = none ∧ u.diu.baseT = none ∧ u.diu.histories = s.diu.histories ∧ u.job = s.job
      ∧ u.faults = s.faults ∧ u.line.fifo = s.line.fifo)
    ∧ (unpassed ≠ [] → ¬ atLimit → s.pass.pendingHold = true → u = s.setPass { s.pass with
        phase := .held, resumeAt := some .next, nextStep := some .again, pendingHold := false, dest := none
        runDown := none, fromSpray := false, holdTimer := some ((recipeOf s.pass).holdLimit * 1000) })
    ∧ (∀ g, unpassed ≠ [] → atLimit → passed ≠ [] → s.pass.pendingHold = false →
      (recipeOf s.pass).stages[s.pass.stage]? = some g → g.kind = .dry →
      (∃ x ∈ rejected, terminal x = false) →
      u.pass.phase = .dry ∧ u.pass.stage = s.pass.stage + 1 ∧ u.pass.members = passed
      ∧ u.pass.departed = unpassed.foldl (fun l m =>
          insertResult { index := m.index, outcome := .retired .residuePersists, own := m.own } l) s.pass.departed
      ∧ u.job = { s.job with table := rejected } ∧ u.faults = s.faults ∧ u.line.fifo = s.line.fifo)
    ∧ (atLimit → passed = [] → s.job.state = .opened → (∃ x ∈ rejected, terminal x = false) →
      u.pass = Pass.idle ∧ u.job = { s.job with table := rejected } ∧ u.faults = s.faults
      ∧ (∃ r, u.line.fifo = joined [.passResult r] s ∧ r.outcome = .allRetired ∧ r.number = s.pass.number
        ∧ r.members = unpassed.foldl (fun l m =>
          insertResult { index := m.index, outcome := .retired .residuePersists, own := m.own } l) s.pass.departed))

/-! ## The ends of stages, of drain-down and of the append window -/

/-- R76, R77, R78, R62: the dry time's expiry. Before the last stage a following DRY stage is entered for its own dry
time; after the last stage the pass commits: every member's compartment is CLEAN with its certificate and grade, the
PASS_RESULT and then one CERTIFICATE a member join the FIFO before any JOB_REPORT, and the engine is in NONE. Outside
DRY it does nothing. -/
def Obligations.DryTimeExpiryGoesOnOrCommits : Prop :=
  ∀ s : State, s.power = .running →
    (s.pass.phase ≠ .dry → ∃ t, exec .dryTimeExpiry s = .next t
      ∧ t.pass = s.pass ∧ t.job = s.job ∧ SameDiuFillFaults s t ∧ t.panel = s.panel ∧ SameShare s t
      ∧ SameModule s t ∧ Sending s.line.fifo s t)
    ∧ (∀ g, s.pass.phase = .dry → s.pass.pendingHold = false →
        (recipeOf s.pass).stages[s.pass.stage]? = some g → g.kind = .dry → ∃ t, exec .dryTimeExpiry s = .next t
      ∧ t.pass.phase = .dry ∧ t.pass.stage = s.pass.stage + 1 ∧ t.pass.dryLeft = g.timeLimit * 1000
      ∧ t.pass.members = s.pass.members ∧ t.pass.repeats = s.pass.repeats
      ∧ t.job = s.job ∧ SameDiuFillFaults s t ∧ SameShare s t ∧ SameModule s t ∧ Sending s.line.fifo s t)
    ∧ (s.pass.phase = .dry → (recipeOf s.pass).stages.length ≤ s.pass.stage → s.pass.members ≠ [] →
        (∀ m ∈ s.pass.members, m.retiring = none) → (s.pass.members.map (·.index)).Nodup →
        (s.job.table.map (·.index)).Nodup → FifoBounded s → ∃ t, exec .dryTimeExpiry s = .next t
      ∧ t.pass = Pass.idle ∧ t.diu.histories = [] ∧ t.diu.baseC = none ∧ t.diu.baseT = none
      ∧ (∀ m ∈ s.pass.members, ∀ c ∈ s.job.table, c.index = m.index → ∃ d ∈ t.job.table, ∃ x,
          d = { c with state := .clean, certificate := some x, keyMark := .none }
          ∧ x.passNumber = s.pass.number ∧ x.recipe = s.pass.recipe ∧ x.fitFor = c.nextClass
          ∧ x.grade = (if 0 < s.pass.class2 then .c else if s.pass.class3 + m.own = 0 then .a else .b)
          ∧ x.repeatsUsed = s.pass.repeats ∧ x.filteredFaults = s.pass.class2 + s.pass.class3 + m.own
          ∧ x.commitTime = s.job.clock)
      ∧ (∀ c ∈ s.job.table, (∀ m ∈ s.pass.members, m.index ≠ c.index) → c ∈ t.job.table)
      ∧ (∃ r rest, t.line.fifo =
            joined (.passResult r :: s.pass.members.map (fun m => certificateNotice m s) ++ rest) s
          ∧ r.outcome = .complete ∧ r.number = s.pass.number
          ∧ (rest = [] ∨ rest = [.jobReport (jobNumber s) .complete] ∨ rest = [.jobReport (jobNumber s) .released]))
      ∧ t.fill = s.fill ∧ t.faults = s.faults ∧ t.panel = s.panel ∧ SameShare s t ∧ SameModule s t)

/-- R101, R103: the end of a drain-down, after 12 quiet intervals or after 120 s. Each member's compartment takes the
outcome of its own code when it was retiring, else of the abort's; a release leaves the states standing; the engine is
in NONE with the outlets shut, and a PASS_RESULT ABORTED joins the FIFO. Outside DRAIN_DOWN neither event touches the
pass. -/
def Obligations.DrainDownEnds : Prop :=
  ∀ (c : Instr) (s : State), s.power = .running → (c = .drainDownQuiet ∨ c = .drainDownTimeout) →
    (s.pass.phase ≠ .drainDown → ∃ t, exec c s = .next t
      ∧ t.pass = s.pass ∧ t.job = s.job ∧ SameDiuFillFaults s t ∧ t.panel = s.panel ∧ SameShare s t
      ∧ SameModule s t ∧ Sending s.line.fifo s t)
    ∧ (∀ code, s.pass.phase = .drainDown → s.pass.abortCode = some code → (s.pass.members.map (·.index)).Nodup →
        FifoBounded s → ∃ t, exec c s = .next t
      ∧ t.pass = Pass.idle ∧ t.outs.outlets = 0 ∧ t.diu.window = none ∧ t.diu.histories = []
      ∧ t.job.table = s.job.table.map (fun x =>
          match s.pass.members.find? (fun m => m.index == x.index) with
          | none => x
          | some m =>
            match (if code = .jobReleased then Code.jobReleased else m.retiring.getD code).outcome with
            | .transient => { x with state := m.ckState, lastClass := m.ckClass, keyMark := .none }
            | .persistent => { x with state := .rejected, keyMark := .none }
            | .withdrawn => { x with keyMark := .none })
      ∧ (∃ r rest, t.line.fifo = joined (.passResult r :: rest) s ∧ r.outcome = .aborted code
          ∧ (rest = [] ∨ rest = [.jobReport (jobNumber s) .complete] ∨ rest = [.jobReport (jobNumber s) .released]))
      ∧ t.fill = s.fill ∧ t.faults = s.faults ∧ t.panel = s.panel ∧ SameShare s t ∧ SameModule s t)

/-- R52, R58 to R64: the append window's expiry. An empty batch ends with EMPTY_BATCH; a batch with members is formed
into the FLUSH of its first stage: the pass number is the counter's new value, the members are WASHING with one attempt
more. Outside GATHERING it does nothing. The FLUSH is stated with the heads seated and the channels present (the
findings at a FLUSH entry are left out); the raw pump-stopped line, on in FLUSH, is log 5, the model's choice. -/
def Obligations.AppendWindowExpires : Prop :=
  ∀ s : State, s.power = .running →
    (s.pass.phase ≠ .gathering → ∃ t, exec .appendWindowExpiry s = .next t
      ∧ t.pass = s.pass ∧ t.job = s.job ∧ SameDiuFillFaults s t ∧ t.panel = s.panel ∧ SameShare s t
      ∧ SameModule s t ∧ Sending s.line.fifo s t)
    ∧ (s.pass.phase = .gathering → s.pass.batch = [] → ∃ t, exec .appendWindowExpiry s = .next t
      ∧ t.pass = Pass.idle ∧ t.panel = { s.panel with refused := some 2000, lastRefusal := .emptyBatch }
      ∧ t.job = s.job ∧ SameDiuFillFaults s t ∧ SameShare s t ∧ SameModule s t ∧ Sending s.line.fifo s t)
    ∧ (s.pass.phase = .gathering → s.pass.batch ≠ [] → (stageOf (formedPass s)).kind ≠ .dry →
        (∀ b ∈ s.pass.batch, lineOn s.panel.level.head b.index = true) →
        s.diu.c.present = true → s.diu.t.present = true → 3600000 ≤ s.panel.loopC → 3600000 ≤ s.panel.loopT →
        (s.pass.batch.map (·.index)).Nodup → ∃ t, exec .appendWindowExpiry s = .next t
      ∧ t.pass.phase = .flush ∧ t.pass.flushLeft = 2000 ∧ t.pass.stage = 1 ∧ t.pass.abortCode = none
      ∧ t.job.passCounter = s.job.passCounter + 1 ∧ t.pass.number = s.job.passCounter + 1
      ∧ t.pass.recipe = s.pass.batchRecipe.getD 0 ∧ t.pass.probe = s.pass.probe
      ∧ t.pass.repeats = (if (stageOf (formedPass s)).kind = .finalRinse then 1 else 0)
      ∧ t.pass.members.map (fun m => (m.index, m.ckState)) = s.pass.batch.map (fun b => (b.index, b.prior))
      ∧ t.job.table = s.job.table.map (fun x => if s.pass.batch.any (fun b => b.index == x.index) then
          { x with state := .washing, attempts := min 255 (x.attempts + 1) } else x)
      ∧ t.diu.histories = s.pass.batch.map (fun b => { index := b.index, c := [], t := [] })
      ∧ t.diu.baseC = none ∧ t.diu.baseT = none ∧ t.diu.clock = 250
      ∧ t.panel = { s.panel with raw := { s.panel.raw with pumpStopped := true } }
      ∧ t.fill = s.fill ∧ t.faults = s.faults ∧ SameShare s t
      ∧ SameModule s t ∧ Sending s.line.fifo s t)

/-! ## The office (chapter 2) -/

/-- R16, R19, R22, R172: a JOB_POST header the receive filter takes, by the job state: OUT_OF_SERVICE in an
out-of-service bay, BUSY in OPEN and RELEASING, BAD_COUNT for a count that is not 1 to 8, else an assembly of empty
slots with a deadline of 2 s, an assembly under way being answered SUPERSEDED. A frame not taken changes nothing. The
deadline's expiry answers INCOMPLETE and returns to the prior state. -/
def Obligations.JobHeaderByState : Prop :=
  ∀ s : State, s.power = .running → FifoBounded s →
    (∀ f : Frame, ∃ t, exec (.jobPostHeader f) s = .next t
      ∧ t.pass = s.pass ∧ SameDiuFillFaults s t ∧ t.panel = s.panel ∧ SameShare s t ∧ SameModule s t
      ∧ (let h := readHeader f
         let answer := fun (tag : List Byte) (r : JobRefusal) =>
           joined [.jobResponse { tag := tag, outcome := .refused r, number := 0, detail := [] }] s
         let begun := fun (prior : Bool) => { s.job with
           state := .assembling
           assembly := some { header := h, slots := List.replicate h.count none, priorClosed := prior,
                              deadline := 2000 } }
         if ¬ takenFromOffice 3 8 f s then t.job = s.job ∧ t.line.fifo = s.line.fifo
         else if s.reader.mark ≠ .inService then t.job = s.job ∧ t.line.fifo = answer h.tag .outOfService
         else if s.job.state = .opened ∨ s.job.state = .releasing then
           t.job = s.job ∧ t.line.fifo = answer h.tag .busy
         else if s.job.state = .assembling then
           ∀ a, s.job.assembly = some a →
             if 1 ≤ h.count ∧ h.count ≤ 8 then
               t.job = begun a.priorClosed ∧ t.line.fifo = answer a.header.tag .superseded
             else t.job = s.job ∧ t.line.fifo = answer h.tag .badCount
         else if 1 ≤ h.count ∧ h.count ≤ 8 then
           t.job = begun (decide (s.job.state = .closed)) ∧ t.line.fifo = s.line.fifo
         else t.job = s.job ∧ t.line.fifo = answer h.tag .badCount))
    ∧ (∃ t, exec .assemblyDeadlineExpiry s = .next t
      ∧ t.pass = s.pass ∧ SameDiuFillFaults s t ∧ t.panel = s.panel ∧ SameShare s t ∧ SameModule s t
      ∧ (s.job.state ≠ .assembling → t.job = s.job ∧ t.line.fifo = s.line.fifo)
      ∧ (∀ a, s.job.state = .assembling → s.job.assembly = some a →
          t.job = { s.job with state := (if a.priorClosed then .closed else .noJob), assembly := none }
          ∧ t.line.fifo = joined [.jobResponse { tag := a.header.tag, outcome := .refused .incomplete, number := 0,
                                                 detail := [] }] s))

/-- R21, R23 to R25: a compartment frame the receive filter takes in ASSEMBLING. An index outside the header's count is
ignored; a slot still empty leaves the assembly open; the last slot ends it: BAD_VOLUME with the lowest index out of
500 to 20,000 L, or acceptance: the job has the next number, its table is made from the slots, its clock, tallies and
pass counter are 0. -/
def Obligations.CompartmentFramesBuildTheJob : Prop :=
  ∀ (f : Frame) (s : State) (a : Assembly), s.power = .running → FifoBounded s → s.pass.phase = .none →
    s.job.state = .assembling → s.job.assembly = some a → takenFromOffice 4 7 f s →
    ∃ t, exec (.jobPostCompartment f) s = .next t
      ∧ t.pass = s.pass ∧ SameDiuFillFaults s t ∧ t.panel = s.panel ∧ SameShare s t ∧ SameModule s t
      ∧ (readIndex f = 0 ∨ a.header.count < readIndex f → t.job = s.job ∧ t.line.fifo = s.line.fifo)
      ∧ (1 ≤ readIndex f → readIndex f ≤ a.header.count →
          let slots := a.slots.set (readIndex f - 1) (some (readSlot f))
          (none ∈ slots → t.job = { s.job with assembly := some { a with slots := slots } }
            ∧ t.line.fifo = s.line.fifo)
          ∧ (∀ (l : List Slot) (k : Nat) (y : Slot), slots = l.map some → l[k]? = some y →
            y.volume < 500 ∨ 20000 < y.volume →
              (∀ j z, j < k → l[j]? = some z → 500 ≤ z.volume ∧ z.volume ≤ 20000) →
              t.job = { s.job with state := (if a.priorClosed then .closed else .noJob), assembly := none }
              ∧ t.line.fifo = joined [.jobResponse { tag := a.header.tag, outcome := .refused .badVolume,
                                                     number := 0, detail := [k + 1] }] s)
          ∧ (∀ l : List Slot, slots = l.map some → (∀ y ∈ l, 500 ≤ y.volume ∧ y.volume ≤ 20000) →
              (t.job.state = .opened ∨ (t.job.state = .closed ∧ ∀ c ∈ t.job.table, terminal c = true))
              ∧ t.job.lastNumber = (if s.job.lastNumber = 255 then 1 else s.job.lastNumber + 1)
              ∧ t.job.record.map (fun r => (r.number, r.tag, r.tolerance))
                  = some (t.job.lastNumber, a.header.tag, a.header.tolerance)
              ∧ (∃ rest, t.line.fifo = joined (.jobResponse
                    { tag := a.header.tag, outcome := .accepted, number := t.job.lastNumber,
                      detail := (t.job.table.filter (fun c => decide (c.state = .barred))).map (·.index) } :: rest) s
                  ∧ (rest = [] ∨ rest = [.jobReport t.job.lastNumber .complete]))
              ∧ t.job.assembly = none ∧ t.job.clock = 0 ∧ t.job.passCounter = 0
              ∧ (t.job.supplyTally, t.job.agentTally, t.job.effluentTally, t.job.productTally) = (0, 0, 0, 0)
              ∧ t.job.table.length = l.length
              ∧ (∀ k x c, l[k]? = some x → t.job.table[k]? = some c →
                  let last := if classEnabled s x.lastClass then x.lastClass else 0
                  c.index = k + 1 ∧ c.volume = x.volume ∧ c.lastClass = last ∧ c.nextClass = x.nextClass
                  ∧ c.keyed = x.keyed ∧ c.fillTarget = min x.fillTarget (x.volume * 98 / 100)
                  ∧ c.state = (if classEnabled s x.nextClass = false then .barred else if last = 0 then .unknown
                      else if (recipeForPair s last x.nextClass).isSome then .soiled else .barred)
                  ∧ c.recipe = (if c.state = .soiled then recipeForPair s last x.nextClass else none)
                  ∧ c.attempts = 0 ∧ c.metered = 0 ∧ c.certificate = none ∧ c.keyMark = .none)))

/-- R36 to R39, R100, R149: a JOB_RELEASE the receive filter takes, by the job state. In OPEN with nothing under way
the release is finished at once: NO_JOB and a JOB_REPORT; a formed pass is aborted JOB_RELEASED and an open fill
stopped RELEASED, and the job is RELEASING. A batch gathering is cancelled, each RETURN with its close check (R54), and
the release finishes in the same event; the RELEASED report follows also where the last RETURN has closed the job
COMPLETE (log 19, the model's reading). A job unit in NO_JOB has its clock at 0 (R34, section 2.7; log 18). A member
gone by early retirement in the same ms is found in the pass (R131, log 37, the model's reading:
AbandonAndAbortsByPhase). REPORT_RECALL queues a snapshot, the closed job's report, or the answer NO_JOB, and changes
nothing else. A frame not taken changes nothing. -/
def Obligations.ReleaseAndRecallByJobState : Prop :=
  ∀ (f : Frame) (s : State), s.power = .running → FifoBounded s →
    (∃ t, exec (.jobRelease f) s = .next t
      ∧ (¬ takenFromOffice 2 0 f s ∨ s.job.state = .noJob ∨ s.job.state = .releasing →
          t.job = s.job ∧ t.pass = s.pass ∧ SameDiuFillFaults s t ∧ SameShare s t ∧ SameModule s t
          ∧ Sending s.line.fifo s t)
      ∧ (takenFromOffice 2 0 f s → s.job.state = .assembling ∨ s.job.state = .closed →
          t.job = { s.job with state := .noJob, assembly := none, clock := 0, clockSub := 0 }
          ∧ t.pass = s.pass ∧ SameDiuFillFaults s t ∧ SameShare s t ∧ SameModule s t ∧ Sending s.line.fifo s t)
      ∧ (takenFromOffice 2 0 f s → s.job.state = .opened → s.pass.phase = .none → s.fill.ctx = none →
          t.job = { s.job with state := .noJob, clock := 0, clockSub := 0 }
          ∧ t.line.fifo = joined [.jobReport (jobNumber s) .released] s
          ∧ t.pass = s.pass ∧ SameDiuFillFaults s t ∧ SameShare s t ∧ SameModule s t)
      ∧ (∀ x, takenFromOffice 2 0 f s → s.job.state = .opened → s.pass.phase = .none → s.fill.ctx = some x →
          t.job = { s.job with state := .releasing } ∧ t.fill.estimate = s.fill.estimate
          ∧ t.fill.ctx = some (if x.phase = .runOn then x else
              { x with phase := .runOn, cause := some .released, learn := false, quietMs := 0 })
          ∧ t.pass = s.pass ∧ t.diu = s.diu ∧ t.faults = s.faults ∧ SameShare s t ∧ SameModule s t
          ∧ Sending s.line.fifo s t)
      ∧ (takenFromOffice 2 0 f s → s.job.state = .opened → s.pass.phase = .gathering → s.fill.ctx = none →
          let returned := s.pass.batch.foldl (fun l b => l.map (fun x =>
            if x.index = b.index then { x with state := b.prior, keyMark := .none } else x)) s.job.table
          t.pass = Pass.idle ∧ t.job = { s.job with state := .noJob, table := returned, clock := 0, clockSub := 0 }
          ∧ (∃ rest, t.line.fifo = joined (rest ++ [.jobReport (jobNumber s) .released]) s
            ∧ (rest = [] ∨ rest = [.jobReport (jobNumber s) .complete])
            ∧ ((s.pass.batch.map (·.index)).Nodup →
              (∀ b ∈ s.pass.batch, ∃ x ∈ s.job.table, x.index = b.index ∧ x.state = .scheduled) →
              rest = if s.pass.batch ≠ [] ∧ returned.all terminal = true then [.jobReport (jobNumber s) .complete]
                else []))
          ∧ SameDiuFillFaults s t ∧ SameModule s t)
      ∧ (takenFromOffice 2 0 f s → s.job.state = .opened → formed s.pass → s.pass.phase ≠ .drainDown →
          s.pass.abortCode = none →
          t.job.state = .releasing ∧ t.pass.abortCode = some .jobReleased
          ∧ (t.pass.phase = .runDown ∨ t.pass.phase = .drainDown) ∧ t.pass.stage = s.pass.stage
          ∧ (s.pass.late.left = [] → t.job = { s.job with state := .releasing }
            ∧ t.pass.members = s.pass.members.map (fun m => { m with passed := false, signature := none }))
          ∧ t.faults = s.faults ∧ SameModule s t ∧ Sending s.line.fifo s t))
    ∧ (∃ t, exec (.reportRecall f) s = .next t
      ∧ t.job = s.job ∧ t.pass = s.pass ∧ SameDiuFillFaults s t ∧ t.panel = s.panel ∧ SameShare s t
      ∧ SameModule s t
      ∧ t.line.fifo = if ¬ takenFromOffice 5 0 f s then s.line.fifo else joined [
          match s.job.state with
          | .opened => .jobReport (jobNumber s) .snapshot
          | .releasing => .jobReport (jobNumber s) .snapshot
          | .closed => .jobReport (jobNumber s) .complete
          | .noJob => .jobResponse { tag := blankTag, outcome := .noJob, number := 0, detail := [] }
          | .assembling => .jobResponse { tag := blankTag, outcome := .noJob, number := 0, detail := [] }] s)

/-! ## The share unit (chapter 9) -/

/-- R155, R156, R163: a SUPPLY the filter takes in an in-service bay, and the staleness timer's expiry. The record
takes the capacities, at most 4,000, and the plant state and is FRESH for 3 s; both shares are computed from it and are
0 in SHUTDOWN. The expiry of a FRESH record makes the shares 0, keeps the capacities and raises SUPPLY_STALE; a STALE
record raises nothing. What the shares then do to a pass in SPRAY or STARVED is StarvationAndResumption's; elsewhere
every other block stands. -/
def Obligations.SupplyRecordAndItsStaleness : Prop :=
  ∀ s : State, s.power = .running →
    (∀ f : Frame, ∃ t, exec (.supply f) s = .next t
      ∧ (¬ (taken 0 5 f s ∧ s.reader.mark = .inService) → SameShare s t)
      ∧ (taken 0 5 f s → s.reader.mark = .inService →
          t.share = { s.share with
            hotCap := min 4000 (wordAt f 0), effCap := min 4000 (wordAt f 2)
            plant := (if byteAt f 4 = 0 then .normal else if byteAt f 4 = 1 then .reduced else .shutdown)
            stale := some 3000, hotShare := t.share.hotShare, effShare := t.share.effShare
            hotReported := t.share.hotShare, own := t.share.own, refresh := t.share.refresh
            starved := t.share.starved, steady := t.share.steady, steadyFlag := t.share.steadyFlag }
          ∧ t.share.hotShare = ownShare t t.share.hotCap Demand.hot
          ∧ t.share.effShare = ownShare t t.share.effCap Demand.eff
          ∧ (2 ≤ byteAt f 4 → t.share.hotShare = 0 ∧ t.share.effShare = 0))
      ∧ (s.pass.phase ≠ .spray → s.pass.phase ≠ .starved →
          t.share.steadyFlag = s.share.steadyFlag ∧ t.share.steady = s.share.steady
          ∧ t.job = s.job ∧ t.pass = s.pass ∧ SameDiuFillFaults s t ∧ t.panel = s.panel ∧ SameModule s t
          ∧ Sending s.line.fifo s t))
    ∧ (FifoBounded s → ∃ t, exec .supplyStale s = .next t
      ∧ (s.share.stale = none → SameShare s t ∧ t.faults = s.faults ∧ t.line.fifo = s.line.fifo)
      ∧ (s.share.stale.isSome = true →
          t.share.stale = none ∧ t.share.hotShare = 0 ∧ t.share.effShare = 0
          ∧ (t.share.hotCap, t.share.effCap, t.share.plant) = (s.share.hotCap, s.share.effCap, s.share.plant)
          ∧ t.share.peers = s.share.peers
          ∧ (s.faults.record = none →
              t.faults.record = some { kind := .supplyStale, source := .share, compartment := none, stage := none,
                                       time := s.job.clock })
          ∧ (s.faults.record.isSome = true → t.faults = { s.faults with overflow := true }))
      ∧ (s.pass.phase ≠ .spray → s.pass.phase ≠ .starved →
          t.job = s.job ∧ t.pass = s.pass ∧ t.diu = s.diu ∧ t.fill = s.fill ∧ t.panel = s.panel ∧ SameModule s t
          ∧ t.line.fifo = if s.share.stale.isSome = true ∧ s.faults.record = none then
              joined [.fault { kind := .supplyStale, source := .share, compartment := none, stage := none,
                               time := s.job.clock }] s
            else s.line.fifo))

/-- R157, R158, R163: the notices of other nodes and a peer's silence, in an in-service bay. A DEMAND makes or replaces
its node's entry with a silence timer of 3 s; a BAY_RESTARTED, or the silence timer's expiry, drops it; the other
entries stand and both shares are computed from the table. A BAY_STATUS changes nothing. What the shares then do to a
pass in SPRAY or STARVED is StarvationAndResumption's; elsewhere every other block stands. -/
def Obligations.PeerTableFollowsTheNotices : Prop :=
  ∀ (c : Instr) (n : Nat) (entry : Option Demand) (s : State), s.power = .running → s.reader.mark = .inService →
    PeersDistinct s →
    ((∃ f, c = .demand f ∧ taken 1 7 f s ∧ n = frameNode f ∧ n ≠ 0 ∧ n ≠ nodeOf s ∧ entry = some (readDemand f))
      ∨ (∃ f, c = .bayRestarted f ∧ taken 13 0 f s ∧ n = frameNode f ∧ n ≠ nodeOf s ∧ entry = none)
      ∨ (c = .peerSilenceExpiry n ∧ (∃ p ∈ s.share.peers, p.node = n) ∧ entry = none)
      ∨ (∃ f, c = .bayStatus f ∧ taken 12 0 f s ∧ n = frameNode f ∧ n ≠ nodeOf s
          ∧ entry = (s.share.peers.find? (fun p => p.node == n)).map (·.demand))) →
    ∃ t, exec c s = .next t
      ∧ (t.share.peers.find? (fun p => p.node == n)).map (·.demand) = entry
      ∧ (∀ m, m ≠ n → t.share.peers.find? (fun p => p.node == m) = s.share.peers.find? (fun p => p.node == m))
      ∧ (∀ f, c = .demand f → (t.share.peers.find? (fun p => p.node == n)).map (·.silence) = some 3000)
      ∧ ((∃ f, c = .bayStatus f) → SameShare s t)
      ∧ ((∀ f, c ≠ .bayStatus f) →
          t.share.hotShare = ownShare t t.share.hotCap Demand.hot
          ∧ t.share.effShare = ownShare t t.share.effCap Demand.eff)
      ∧ (t.share.hotCap, t.share.effCap, t.share.plant, t.share.stale, t.share.lockout, t.share.announced)
          = (s.share.hotCap, s.share.effCap, s.share.plant, s.share.stale, s.share.lockout, s.share.announced)
      ∧ (s.pass.phase ≠ .spray → s.pass.phase ≠ .starved →
          t.job = s.job ∧ t.pass = s.pass ∧ SameDiuFillFaults s t ∧ t.panel = s.panel ∧ SameModule s t
          ∧ Sending s.line.fifo s t)

/-- R170: a DEMAND, BAY_RESTARTED or BAY_STATUS bearing the bay's own node. With the lockout clear it is set:
DUPLICATE_NODE is raised, the DEMAND mailbox emptied, the refresh timer stopped, the own entry dropped and both shares
are 0. With the lockout set it changes nothing. What the shares then do to a pass in SPRAY or STARVED is
StarvationAndResumption's; elsewhere every other block stands. -/
def Obligations.OwnNodeHeardLocksOut : Prop :=
  ∀ (c : Instr) (f : Frame) (s : State), s.power = .running → s.reader.mark = .inService →
    frameNode f = nodeOf s →
    ((c = .demand f ∧ taken 1 7 f s) ∨ (c = .bayRestarted f ∧ taken 13 0 f s)
      ∨ (c = .bayStatus f ∧ taken 12 0 f s)) →
    ∃ t, exec c s = .next t
      ∧ (s.share.lockout = true → t.share = s.share ∧ t.faults = s.faults ∧ t.line.fifo = s.line.fifo)
      ∧ (s.share.lockout = false →
          t.share.lockout = true ∧ t.share.refresh = none ∧ t.share.hotShare = 0 ∧ t.share.effShare = 0
          ∧ t.share.peers = s.share.peers.filter (fun p => p.node != nodeOf s) ∧ t.line.demandBox = none
          ∧ (s.faults.record = none →
              t.faults.record = some { kind := .duplicateNode, source := .share, compartment := none,
                                       stage := none, time := s.job.clock })
          ∧ (s.faults.record.isSome = true → t.faults = { s.faults with overflow := true }))
      ∧ (s.pass.phase ≠ .spray → s.pass.phase ≠ .starved →
          t.job = s.job ∧ t.pass = s.pass ∧ t.diu = s.diu ∧ t.fill = s.fill ∧ t.panel = s.panel ∧ SameModule s t)

/-- R66, R83, R86, R87, R169: the supply of a SPRAY. At a SUPPLY, a DEMAND, a BAY_RESTARTED, a BAY_STATUS, a sump
sample, a send completion, a staleness or a silence expiry of an in-service bay the shares or the sump level may
change, and the conditions are looked at. In SPRAY the onset of starvation begins a run-down toward STARVED, ended at
entry with the pump-stopped line on; the spray record is kept. In STARVED the resumption condition takes the SPRAY up:
the pump runs, the spraying members are wetted. Without a change, an onset or a resumption the pass is as it was (that
the conditions are looked at only when an input has changed is log 13, the model's reading). A resumption with the
volume already reached (log 17, the model's reading) enters DRAIN at once. A run-down toward STARVED that ends with the
resumption condition holding takes the SPRAY up, with the volume reached it ends in DRAIN (R68). The yard's resume mark
lies below its high mark (R3). The taking up is stated with every watched head seated and probe dry, the DRAIN with the
heads seated and the named channels present; the raw pump-stopped line is log 5, the model's choice. -/
def Obligations.StarvationAndResumption : Prop :=
  let ready := fun s : State => unseated s = [] ∧ flooded s = [] ∧ s.pass.abortCode = none
    ∧ volumeReached s.pass = false ∧ allRetiring s.pass = false
  let wetted := fun s : State => s.pass.members.map (fun m =>
    if m.passed = false ∧ m.retiring = none then { m with wetted := true } else m)
  (∀ (c : Instr) (s : State), inService s → (s.pass.phase = .spray ∨ s.pass.phase = .starved) →
    (∀ tb, s.reader.tables = some tb → tb.yard.resumeMark < tb.yard.highMark) →
    ((∃ f, c = .supply f ∨ c = .demand f ∨ c = .bayRestarted f ∨ c = .bayStatus f)
      ∨ (∃ n, c = .sumpSample n ∨ c = .peerSilenceExpiry n) ∨ c = .transmitComplete ∨ c = .supplyStale) →
    ∃ t, exec c s = .next t
      ∧ (let changed := t.share.hotShare ≠ s.share.hotShare ∨ t.share.level ≠ s.share.level
         let now : State := { s with share := t.share }
         let frame := t.job = s.job ∧ t.diu = s.diu ∧ t.fill = s.fill ∧ SameModule s t
           ∧ t.panel.level = s.panel.level
         (s.pass.phase = .spray →
          (changed → s.share.starved = false → starvation now = true →
            frame ∧ t.pass.spray = s.pass.spray ∧ t.pass.members = s.pass.members ∧ t.pass.stage = s.pass.stage
            ∧ t.share.starved = true ∧ t.panel.raw = s.panel.raw
            ∧ (s.panel.level.pumpStopped = false → t.pass.phase = .runDown ∧ t.pass.dest = some .starved
              ∧ t.pass.runDown = some 5000 ∧ t.pass.fromSpray = true)
            ∧ (s.panel.level.pumpStopped = true → t.pass.phase = .starved
              ∧ t.pass.starveTimer = some ((recipeOf s.pass).starveLimit * 1000)))
          ∧ (¬ changed ∨ s.share.starved = true ∨ starvation now = false →
            frame ∧ t.pass = s.pass ∧ t.panel.raw = s.panel.raw))
        ∧ (s.pass.phase = .starved →
          (changed → resumption now = true → ready s →
            frame ∧ t.pass.phase = .spray ∧ t.pass.spray = s.pass.spray ∧ t.pass.members = wetted s
            ∧ t.pass.starveTimer = none ∧ t.panel.raw = { s.panel.raw with pumpStopped := false })
          ∧ (changed → resumption now = true → unseated s = [] → flooded s = [] → namedAbsent s = false →
            s.pass.abortCode = none → volumeReached s.pass = true → sprayingMembers s.pass ≠ [] →
            t.job = s.job ∧ t.fill = s.fill ∧ SameModule s t
            ∧ t.pass.phase = .drain ∧ t.pass.members = wetted s ∧ t.pass.spray = none
            ∧ t.pass.drainList = (s.pass.members.filter (fun m => !m.passed)).map (·.index)
            ∧ t.diu.window.map (·.member) = t.pass.drainList.head? ∧ t.panel.raw.pumpStopped = true)
          ∧ (¬ changed ∨ resumption now = false → frame ∧ t.pass = s.pass ∧ t.panel.raw = s.panel.raw))))
  ∧ (∀ (c : Instr) (s : State), s.power = .running → (c = .pumpStoppedOn ∨ c = .runDownTimeout) →
    s.pass.phase = .runDown → s.pass.dest = some .starved →
    ∃ t, exec c s = .next t
      ∧ (resumption s = true → ready s →
        t.pass.phase = .spray ∧ t.pass.spray = s.pass.spray ∧ t.pass.members = wetted s ∧ t.pass.runDown = none
        ∧ t.panel.raw.pumpStopped = false ∧ t.job = s.job ∧ SameDiuFillFaults s t ∧ SameModule s t
        ∧ Sending s.line.fifo s t)
      ∧ (volumeReached s.pass = true → unseated s = [] → namedAbsent s = false → s.pass.abortCode = none →
        sprayingMembers s.pass ≠ [] →
        t.pass.phase = .drain ∧ t.pass.drainList = (s.pass.members.filter (fun m => !m.passed)).map (·.index)
        ∧ t.pass.draining = t.pass.drainList.head? ∧ t.diu.window.map (·.member) = t.pass.drainList.head?
        ∧ t.pass.members = s.pass.members ∧ t.panel.raw.pumpStopped = true ∧ t.job = s.job ∧ t.fill = s.fill
        ∧ t.faults = s.faults ∧ SameModule s t ∧ Sending s.line.fifo s t))

/-- R160, R161, R175: the timers of the notices. The DEMAND refresh places the own demand and runs 1 s afresh (in the
transmit buffer at once when it stands empty on an ACTIVE bus, else in its mailbox); the steady timer clears the steady
flag; the BAY_STATUS refresh places the fields as they stand and runs 10 s afresh. -/
def Obligations.NoticeTimersPlaceTheirNotices : Prop :=
  ∀ s : State, s.power = .running →
    (∃ t, exec .demandRefreshExpiry s = .next t
      ∧ (s.share.refresh = none ∨ s.share.lockout = true → t.share = s.share)
      ∧ (s.share.refresh.isSome = true → s.share.lockout = false →
          t.share = { s.share with refresh := some 1000 }
          ∧ (s.line.bus = .active ∧ s.line.tx = none →
              t.line.tx.map (·.content) = some (.demand s.share.own) ∧ t.line.demandBox = none)
          ∧ (¬ (s.line.bus = .active ∧ s.line.tx = none) →
              t.line.demandBox = some s.share.own ∧ t.line.tx = s.line.tx))
      ∧ t.job = s.job ∧ t.pass = s.pass ∧ SameDiuFillFaults s t ∧ t.panel = s.panel ∧ SameModule s t
      ∧ Sending s.line.fifo s t)
    ∧ (∃ t, exec .steadyTimerExpiry s = .next t
      ∧ (s.share.steady = none → t.share.steadyFlag = s.share.steadyFlag)
      ∧ (s.share.steady.isSome = true → t.share.steadyFlag = false
          ∧ (inService s → s.share.steadyFlag = true → t.share.own.steady = false))
      ∧ t.share = { s.share with steady := none, steadyFlag := t.share.steadyFlag, own := t.share.own,
                                 refresh := t.share.refresh, starved := t.share.starved }
      ∧ t.job = s.job ∧ t.pass = s.pass ∧ SameDiuFillFaults s t ∧ t.panel = s.panel ∧ SameModule s t
      ∧ Sending s.line.fifo s t)
    ∧ (∃ t, exec .bayStatusRefreshExpiry s = .next t
      ∧ (s.line.statusTimer.isSome = true → t.line.statusTimer = some 10000
          ∧ (s.line.tx.isSome = true → t.line.statusBox = some (bayStatus s)))
      ∧ t.share = s.share ∧ t.job = s.job ∧ t.pass = s.pass ∧ SameDiuFillFaults s t ∧ t.panel = s.panel
      ∧ SameModule s t ∧ Sending s.line.fifo s t)

/-- R15, R167, R168: a sump sample in an in-service bay. The level is the loop current over the capacity and never
above it; the pump-out starts above the start mark and stops below the stop mark; its rate is the smaller of the
maximum rate and the effluent share while it runs. What the level then does to a pass in SPRAY or STARVED is
StarvationAndResumption's; elsewhere every other block stands. In an out-of-service bay the level is sampled too, over
the capacity of the image or, with a bad image, an open value (log 10, the model's choice); the pump-out state stays as
it is, the outputs at rest, and no condition is looked at. -/
def Obligations.SumpSampleDrivesThePumpOut : Prop :=
  (∀ (current : Nat) (tb : Tables) (s : State), inService s → s.reader.tables = some tb →
    ∃ t, exec (.sumpSample current) s = .next t
      ∧ t.share.level = (if current ≤ 4000000 then 0 else if 20000000 ≤ current then tb.yard.capacity
          else (current - 4000000) * tb.yard.capacity / 16000000)
      ∧ t.share.level ≤ tb.yard.capacity
      ∧ (s.share.pumpOut = false → (t.share.pumpOut = true ↔ tb.yard.startMark < t.share.level))
      ∧ (s.share.pumpOut = true → (t.share.pumpOut = false ↔ t.share.level < tb.yard.stopMark))
      ∧ t.outs.pumpRate = (if t.share.pumpOut then min tb.yard.maxRate s.share.effShare else 0)
      ∧ (t.outs.pumpOut = true ↔ 0 < t.outs.pumpRate)
      ∧ t.share = { s.share with level := t.share.level, pumpOut := t.share.pumpOut, sumpClock := 250
                                 own := t.share.own, refresh := t.share.refresh, starved := t.share.starved
                                 steady := t.share.steady, steadyFlag := t.share.steadyFlag }
      ∧ (s.pass.phase ≠ .spray → s.pass.phase ≠ .starved →
          t.panel = { s.panel with loopSump := current }
          ∧ t.share.steadyFlag = s.share.steadyFlag ∧ t.share.steady = s.share.steady
          ∧ t.job = s.job ∧ t.pass = s.pass ∧ SameDiuFillFaults s t ∧ SameModule s t ∧ Sending s.line.fifo s t))
  ∧ (∀ (current : Nat) (s : State), s.power = .running → s.reader.mark ≠ .inService →
    let capacity := match s.reader.tables with
      | some tb => tb.yard.capacity
      | none => Config.capacityWithoutImage
    ∃ t, exec (.sumpSample current) s = .next t
      ∧ t.share = { s.share with
          level := if current ≤ 4000000 then 0 else if 20000000 ≤ current then capacity
            else (current - 4000000) * capacity / 16000000
          sumpClock := 250 }
      ∧ t.outs.pumpOut = false ∧ t.outs.pumpRate = 0 ∧ t.panel = { s.panel with loopSump := current }
      ∧ t.job = s.job ∧ t.pass = s.pass ∧ SameDiuFillFaults s t ∧ SameModule s t ∧ Sending s.line.fifo s t)

/-- R164: in ORDERED mode each entry, in the order of R163, is allotted the smaller of its demand and what the earlier
allotments have left of the capacity. R163, R165, R156, R170: the order holds every entry once, by steady flag,
priority, age and node; the allotments together never exceed the capacity, none exceeds its demand; in PROPORTIONAL
mode the entries that are not steady get, when they ask for more than what remains, each the floor of its proportion;
the own share is 0 with a STALE record, in SHUTDOWN and under the lockout. -/
def Obligations.DivisionOfAUtility : Prop :=
  (∀ (capacity : Nat) (demand : Demand → Nat) (peers : List Peer),
    allot .ordered capacity demand peers
      = allotOrdered capacity ((sortPeers peers).map (fun p => (p.node, demand p.demand))))
  ∧ (∀ (capacity : Nat) (entries : List (Nat × Nat)),
    (allotOrdered capacity entries).map (·.1) = entries.map (·.1)
    ∧ (∀ k n d, entries[k]? = some (n, d) → (allotOrdered capacity entries)[k]? =
        some (n, min d (capacity - (((allotOrdered capacity entries).take k).map (·.2)).sum)))
    ∧ ((allotOrdered capacity entries).map (·.2)).sum = min capacity ((entries.map (·.2)).sum))
  ∧ (∀ peers : List Peer, (sortPeers peers).Perm peers
    ∧ ((peers.map (·.node)).Nodup → (sortPeers peers).Pairwise (fun a b => a.before b = true)))
  ∧ (∀ (mode : AllocMode) (capacity : Nat) (demand : Demand → Nat) (peers : List Peer),
    ((allot mode capacity demand peers).map (·.2)).sum ≤ capacity
    ∧ ∀ p ∈ peers, (peers.map (·.node)).Nodup →
        allotmentOf p.node (allot mode capacity demand peers) ≤ demand p.demand)
  ∧ (∀ (capacity : Nat) (demand : Demand → Nat) (peers : List Peer), (peers.map (·.node)).Nodup →
    let steady := (((sortPeers peers).filter (fun p => p.demand.steady)).map (fun p => demand p.demand)).sum
    let others := ((peers.filter (fun p => !p.demand.steady)).map (fun p => demand p.demand)).sum
    let left := capacity - steady
    ∀ p ∈ peers, p.demand.steady = false →
      allotmentOf p.node (allot .proportional capacity demand peers) =
        if others ≤ left then demand p.demand else left * demand p.demand / others)
  ∧ (∀ (s : State) (capacity : Nat) (demand : Demand → Nat),
    (s.share.stale = none ∨ s.share.plant = .shutdown ∨ s.share.lockout = true → ownShare s capacity demand = 0)
    ∧ ownShare s capacity demand ≤ capacity)

/-! ## The yard line interface (chapter 10) -/

/-- R162, R174, R176, R178: the send completion, bus-off and recovery. A DEMAND sent becomes the announced demand and
the own peer entry and both shares are computed (what they then do to a pass in SPRAY or STARVED is
StarvationAndResumption's); with the duplicate-node lockout set it changes nothing of the share unit (R170); another
frame moves its notice on, and the last frame of an event notice takes it off the FIFO's head. Bus-off raises BUS_OFF,
also when the bus is off already (log 26, the model's reading), and keeps what waits; recovery keeps the frame in the
buffer, or fills an empty one when a notice waits. -/
def Obligations.FramesGoOutAndTheBusRecovers : Prop :=
  ∀ s : State, s.power = .running →
    (∃ t, exec .transmitComplete s = .next t
      ∧ (s.line.bus = .busOff ∨ (∀ f d, s.line.tx = some f → f.content ≠ .demand d)
            ∨ (s.pass.phase ≠ .spray ∧ s.pass.phase ≠ .starved) →
          t.job = s.job ∧ t.pass = s.pass ∧ SameDiuFillFaults s t ∧ t.panel = s.panel ∧ SameModule s t
          ∧ t.line.bus = s.line.bus)
      ∧ (s.line.bus = .busOff → t.share = s.share ∧ t.line.fifo = s.line.fifo ∧ t.line.tx = s.line.tx)
      ∧ (∀ f d, s.line.bus = .active → s.line.tx = some f → f.content = .demand d → s.share.lockout = false →
          t.share.announced = d
          ∧ (s.pass.phase ≠ .spray → s.pass.phase ≠ .starved → t.line.fifo = s.line.fifo)
          ∧ t.share.peers.find? (fun p => p.node == nodeOf s)
              = some { node := nodeOf s, demand := d, silence := 3000 }
          ∧ t.share.hotShare = ownShare t t.share.hotCap Demand.hot
          ∧ t.share.effShare = ownShare t t.share.effCap Demand.eff)
      ∧ (∀ f d, s.line.bus = .active → s.line.tx = some f → f.content = .demand d → s.share.lockout = true →
          t.share = s.share ∧ t.pass = s.pass ∧ t.line.fifo = s.line.fifo)
      ∧ (∀ f x, s.line.bus = .active → s.line.tx = some f → (∀ d, f.content ≠ .demand d) →
          s.line.inTx = some x →
          t.share = s.share
          ∧ (x.next + 1 < x.total → t.line.inTx = some { x with next := x.next + 1 }
              ∧ t.line.fifo = s.line.fifo
              ∧ t.line.tx.map (fun g => (g.content, g.number)) = some (match s.line.demandBox with
                | some d => (.demand d, 0)
                | none => (x.content, x.next + 1)))
          ∧ (x.total ≤ x.next + 1 → t.line.fifo = match x.content with
              | .event _ => s.line.fifo.tail
              | .report _ => s.line.fifo.tail
              | .demand _ => s.line.fifo
              | .status _ => s.line.fifo)))
    ∧ (FifoBounded s → ∃ t, exec .busOff s = .next t
      ∧ t.line.bus = .busOff ∧ t.line.tx = s.line.tx ∧ t.line.inTx = s.line.inTx
      ∧ t.line.demandBox = s.line.demandBox
      ∧ (let f : FaultRec := { kind := .busOff, source := .line, compartment := none, stage := none,
                               time := s.job.clock }
         (s.faults.record = none → t.faults.record = some f ∧ t.line.fifo = joined [.fault f] s)
         ∧ (s.faults.record.isSome = true → t.faults = { s.faults with overflow := true }
             ∧ t.line.fifo = s.line.fifo))
      ∧ t.share = s.share ∧ t.job = s.job ∧ t.pass = s.pass ∧ t.diu = s.diu ∧ t.fill = s.fill ∧ t.panel = s.panel
      ∧ SameModule s t)
    ∧ (∃ t, exec .busRecovery s = .next t
      ∧ t.line.bus = .active ∧ t.line.fifo = s.line.fifo
      ∧ (s.line.tx.isSome = true → t.line.tx = s.line.tx)
      ∧ (s.line.tx = none → s.line.demandBox.isSome = true ∨ s.line.inTx.isSome = true ∨ s.line.fifo ≠ []
          ∨ s.line.statusBox.isSome = true → t.line.tx.isSome = true)
      ∧ t.share = s.share ∧ t.job = s.job ∧ t.pass = s.pass ∧ SameDiuFillFaults s t ∧ t.panel = s.panel
      ∧ SameModule s t)

/-! ## What every step keeps -/

/-- R139, R157, R174, R179, R33, R43: from every state, reachable or not, in which the event FIFO holds at most 12
notices, the overflow flag is set only with a record held, the peer table has one entry a node, the pass counter is at
most 255 (below it while a batch gathers) and the overrun estimate is at most 250, one step leads to such a state. -/
def Obligations.EveryStepKeepsTheBounds : Prop :=
  ∀ s t : State, FifoBounded s → OverflowHasRecord s → PeersDistinct s → CounterBounded s → EstimateBounded s →
    step s = .next t →
    FifoBounded t ∧ OverflowHasRecord t ∧ PeersDistinct t ∧ CounterBounded t ∧ EstimateBounded t

/-- R63, R140, R183 to R185: the outputs take their new values at the event: whatever the step, if the outputs were
those the state drives, they are those the next state drives. -/
def Obligations.OutputsAreDrivenAtEveryStep : Prop :=
  ∀ s t : State, OutputsDriven s → step s = .next t → OutputsDriven t

/-- R15, R63, R67, R101, R140, R168, R185: outputs driven as the state says are safe. The two fill valves are never
open together, nor either outside FULL_FLOW and TRIM; the spray pump, the bypass and the outlets exclude each other;
the pump-out rate is within the effluent share and a hot stage's spray within the hot share; before the end of start-up
and in an out-of-service bay every output but the REFUSED and FAULT lamps is at rest. -/
def Obligations.DrivenOutputsAreSafe : Prop :=
  ∀ s : State, OutputsDriven s →
    FillValvesSafe s ∧ WashPathSafe s ∧ DrawWithinShares s ∧ AtRestUnlessInService s

/-- R141, R142: no fill begins without a certificate. Whatever the step, if the fill unit leaves IDLE the job is OPEN,
the compartment is CLEAN or PART_FILLED with a fill requested, its certificate is of the job's minimum grade or better
and fit for the next class, the key is on for a KEYED compartment, the arm is seated and the probe is dry. -/
def Obligations.NoFillBeginsWithoutACertificate : Prop :=
  ∀ (s t : State) (x : FillCtx), step s = .next t → s.fill.ctx = none → t.fill.ctx = some x →
    s.job.state = .opened ∧ s.pass.phase ≠ .gathering
    ∧ ∃ c cert, compartment? s x.compartment = some c ∧ (c.state = .clean ∨ c.state = .partFilled)
      ∧ c.fillTarget ≠ 0 ∧ c.certificate = some cert ∧ (minGradeOf s).rank ≤ cert.grade.rank
      ∧ cert.fitFor = c.nextClass ∧ (c.keyed = true → s.panel.level.key = true)
      ∧ lineOn s.panel.level.arm x.compartment = true ∧ lineOn s.panel.level.probe x.compartment = false

end
end

