-- ==== Sys2Proof/Laws/State.lean ====
section
/-! SUPPORT. One lemma per field per update of one block: what each update sets and what it leaves alone. -/

namespace Sys2Proof.Machine

variable (s : State)

@[simp] theorem setPower_power (v : Power) : (s.setPower v).power = v := rfl
@[simp] theorem setPower_reader (v : Power) : (s.setPower v).reader = s.reader := rfl
@[simp] theorem setPower_job (v : Power) : (s.setPower v).job = s.job := rfl
@[simp] theorem setPower_pass (v : Power) : (s.setPower v).pass = s.pass := rfl
@[simp] theorem setPower_diu (v : Power) : (s.setPower v).diu = s.diu := rfl
@[simp] theorem setPower_fill (v : Power) : (s.setPower v).fill = s.fill := rfl
@[simp] theorem setPower_share (v : Power) : (s.setPower v).share = s.share := rfl
@[simp] theorem setPower_line (v : Power) : (s.setPower v).line = s.line := rfl
@[simp] theorem setPower_faults (v : Power) : (s.setPower v).faults = s.faults := rfl
@[simp] theorem setPower_panel (v : Power) : (s.setPower v).panel = s.panel := rfl
@[simp] theorem setPower_outs (v : Power) : (s.setPower v).outs = s.outs := rfl
@[simp] theorem setPower_free (v : Power) : (s.setPower v).free = s.free := rfl
@[simp] theorem setPower_pending (v : Power) : (s.setPower v).pending = s.pending := rfl

@[simp] theorem setReader_power (v : Reader) : (s.setReader v).power = s.power := rfl
@[simp] theorem setReader_reader (v : Reader) : (s.setReader v).reader = v := rfl
@[simp] theorem setReader_job (v : Reader) : (s.setReader v).job = s.job := rfl
@[simp] theorem setReader_pass (v : Reader) : (s.setReader v).pass = s.pass := rfl
@[simp] theorem setReader_diu (v : Reader) : (s.setReader v).diu = s.diu := rfl
@[simp] theorem setReader_fill (v : Reader) : (s.setReader v).fill = s.fill := rfl
@[simp] theorem setReader_share (v : Reader) : (s.setReader v).share = s.share := rfl
@[simp] theorem setReader_line (v : Reader) : (s.setReader v).line = s.line := rfl
@[simp] theorem setReader_faults (v : Reader) : (s.setReader v).faults = s.faults := rfl
@[simp] theorem setReader_panel (v : Reader) : (s.setReader v).panel = s.panel := rfl
@[simp] theorem setReader_outs (v : Reader) : (s.setReader v).outs = s.outs := rfl
@[simp] theorem setReader_free (v : Reader) : (s.setReader v).free = s.free := rfl
@[simp] theorem setReader_pending (v : Reader) : (s.setReader v).pending = s.pending := rfl

@[simp] theorem setJob_power (v : JobUnit) : (s.setJob v).power = s.power := rfl
@[simp] theorem setJob_reader (v : JobUnit) : (s.setJob v).reader = s.reader := rfl
@[simp] theorem setJob_job (v : JobUnit) : (s.setJob v).job = v := rfl
@[simp] theorem setJob_pass (v : JobUnit) : (s.setJob v).pass = s.pass := rfl
@[simp] theorem setJob_diu (v : JobUnit) : (s.setJob v).diu = s.diu := rfl
@[simp] theorem setJob_fill (v : JobUnit) : (s.setJob v).fill = s.fill := rfl
@[simp] theorem setJob_share (v : JobUnit) : (s.setJob v).share = s.share := rfl
@[simp] theorem setJob_line (v : JobUnit) : (s.setJob v).line = s.line := rfl
@[simp] theorem setJob_faults (v : JobUnit) : (s.setJob v).faults = s.faults := rfl
@[simp] theorem setJob_panel (v : JobUnit) : (s.setJob v).panel = s.panel := rfl
@[simp] theorem setJob_outs (v : JobUnit) : (s.setJob v).outs = s.outs := rfl
@[simp] theorem setJob_free (v : JobUnit) : (s.setJob v).free = s.free := rfl
@[simp] theorem setJob_pending (v : JobUnit) : (s.setJob v).pending = s.pending := rfl

@[simp] theorem setPass_power (v : Pass) : (s.setPass v).power = s.power := rfl
@[simp] theorem setPass_reader (v : Pass) : (s.setPass v).reader = s.reader := rfl
@[simp] theorem setPass_job (v : Pass) : (s.setPass v).job = s.job := rfl
@[simp] theorem setPass_pass (v : Pass) : (s.setPass v).pass = v := rfl
@[simp] theorem setPass_diu (v : Pass) : (s.setPass v).diu = s.diu := rfl
@[simp] theorem setPass_fill (v : Pass) : (s.setPass v).fill = s.fill := rfl
@[simp] theorem setPass_share (v : Pass) : (s.setPass v).share = s.share := rfl
@[simp] theorem setPass_line (v : Pass) : (s.setPass v).line = s.line := rfl
@[simp] theorem setPass_faults (v : Pass) : (s.setPass v).faults = s.faults := rfl
@[simp] theorem setPass_panel (v : Pass) : (s.setPass v).panel = s.panel := rfl
@[simp] theorem setPass_outs (v : Pass) : (s.setPass v).outs = s.outs := rfl
@[simp] theorem setPass_free (v : Pass) : (s.setPass v).free = s.free := rfl
@[simp] theorem setPass_pending (v : Pass) : (s.setPass v).pending = s.pending := rfl

@[simp] theorem setDiu_power (v : Diu) : (s.setDiu v).power = s.power := rfl
@[simp] theorem setDiu_reader (v : Diu) : (s.setDiu v).reader = s.reader := rfl
@[simp] theorem setDiu_job (v : Diu) : (s.setDiu v).job = s.job := rfl
@[simp] theorem setDiu_pass (v : Diu) : (s.setDiu v).pass = s.pass := rfl
@[simp] theorem setDiu_diu (v : Diu) : (s.setDiu v).diu = v := rfl
@[simp] theorem setDiu_fill (v : Diu) : (s.setDiu v).fill = s.fill := rfl
@[simp] theorem setDiu_share (v : Diu) : (s.setDiu v).share = s.share := rfl
@[simp] theorem setDiu_line (v : Diu) : (s.setDiu v).line = s.line := rfl
@[simp] theorem setDiu_faults (v : Diu) : (s.setDiu v).faults = s.faults := rfl
@[simp] theorem setDiu_panel (v : Diu) : (s.setDiu v).panel = s.panel := rfl
@[simp] theorem setDiu_outs (v : Diu) : (s.setDiu v).outs = s.outs := rfl
@[simp] theorem setDiu_free (v : Diu) : (s.setDiu v).free = s.free := rfl
@[simp] theorem setDiu_pending (v : Diu) : (s.setDiu v).pending = s.pending := rfl

@[simp] theorem setFill_power (v : FillUnit) : (s.setFill v).power = s.power := rfl
@[simp] theorem setFill_reader (v : FillUnit) : (s.setFill v).reader = s.reader := rfl
@[simp] theorem setFill_job (v : FillUnit) : (s.setFill v).job = s.job := rfl
@[simp] theorem setFill_pass (v : FillUnit) : (s.setFill v).pass = s.pass := rfl
@[simp] theorem setFill_diu (v : FillUnit) : (s.setFill v).diu = s.diu := rfl
@[simp] theorem setFill_fill (v : FillUnit) : (s.setFill v).fill = v := rfl
@[simp] theorem setFill_share (v : FillUnit) : (s.setFill v).share = s.share := rfl
@[simp] theorem setFill_line (v : FillUnit) : (s.setFill v).line = s.line := rfl
@[simp] theorem setFill_faults (v : FillUnit) : (s.setFill v).faults = s.faults := rfl
@[simp] theorem setFill_panel (v : FillUnit) : (s.setFill v).panel = s.panel := rfl
@[simp] theorem setFill_outs (v : FillUnit) : (s.setFill v).outs = s.outs := rfl
@[simp] theorem setFill_free (v : FillUnit) : (s.setFill v).free = s.free := rfl
@[simp] theorem setFill_pending (v : FillUnit) : (s.setFill v).pending = s.pending := rfl

@[simp] theorem setShare_power (v : Share) : (s.setShare v).power = s.power := rfl
@[simp] theorem setShare_reader (v : Share) : (s.setShare v).reader = s.reader := rfl
@[simp] theorem setShare_job (v : Share) : (s.setShare v).job = s.job := rfl
@[simp] theorem setShare_pass (v : Share) : (s.setShare v).pass = s.pass := rfl
@[simp] theorem setShare_diu (v : Share) : (s.setShare v).diu = s.diu := rfl
@[simp] theorem setShare_fill (v : Share) : (s.setShare v).fill = s.fill := rfl
@[simp] theorem setShare_share (v : Share) : (s.setShare v).share = v := rfl
@[simp] theorem setShare_line (v : Share) : (s.setShare v).line = s.line := rfl
@[simp] theorem setShare_faults (v : Share) : (s.setShare v).faults = s.faults := rfl
@[simp] theorem setShare_panel (v : Share) : (s.setShare v).panel = s.panel := rfl
@[simp] theorem setShare_outs (v : Share) : (s.setShare v).outs = s.outs := rfl
@[simp] theorem setShare_free (v : Share) : (s.setShare v).free = s.free := rfl
@[simp] theorem setShare_pending (v : Share) : (s.setShare v).pending = s.pending := rfl

@[simp] theorem setLine_power (v : YardLine) : (s.setLine v).power = s.power := rfl
@[simp] theorem setLine_reader (v : YardLine) : (s.setLine v).reader = s.reader := rfl
@[simp] theorem setLine_job (v : YardLine) : (s.setLine v).job = s.job := rfl
@[simp] theorem setLine_pass (v : YardLine) : (s.setLine v).pass = s.pass := rfl
@[simp] theorem setLine_diu (v : YardLine) : (s.setLine v).diu = s.diu := rfl
@[simp] theorem setLine_fill (v : YardLine) : (s.setLine v).fill = s.fill := rfl
@[simp] theorem setLine_share (v : YardLine) : (s.setLine v).share = s.share := rfl
@[simp] theorem setLine_line (v : YardLine) : (s.setLine v).line = v := rfl
@[simp] theorem setLine_faults (v : YardLine) : (s.setLine v).faults = s.faults := rfl
@[simp] theorem setLine_panel (v : YardLine) : (s.setLine v).panel = s.panel := rfl
@[simp] theorem setLine_outs (v : YardLine) : (s.setLine v).outs = s.outs := rfl
@[simp] theorem setLine_free (v : YardLine) : (s.setLine v).free = s.free := rfl
@[simp] theorem setLine_pending (v : YardLine) : (s.setLine v).pending = s.pending := rfl

@[simp] theorem setFaults_power (v : Faults) : (s.setFaults v).power = s.power := rfl
@[simp] theorem setFaults_reader (v : Faults) : (s.setFaults v).reader = s.reader := rfl
@[simp] theorem setFaults_job (v : Faults) : (s.setFaults v).job = s.job := rfl
@[simp] theorem setFaults_pass (v : Faults) : (s.setFaults v).pass = s.pass := rfl
@[simp] theorem setFaults_diu (v : Faults) : (s.setFaults v).diu = s.diu := rfl
@[simp] theorem setFaults_fill (v : Faults) : (s.setFaults v).fill = s.fill := rfl
@[simp] theorem setFaults_share (v : Faults) : (s.setFaults v).share = s.share := rfl
@[simp] theorem setFaults_line (v : Faults) : (s.setFaults v).line = s.line := rfl
@[simp] theorem setFaults_faults (v : Faults) : (s.setFaults v).faults = v := rfl
@[simp] theorem setFaults_panel (v : Faults) : (s.setFaults v).panel = s.panel := rfl
@[simp] theorem setFaults_outs (v : Faults) : (s.setFaults v).outs = s.outs := rfl
@[simp] theorem setFaults_free (v : Faults) : (s.setFaults v).free = s.free := rfl
@[simp] theorem setFaults_pending (v : Faults) : (s.setFaults v).pending = s.pending := rfl

@[simp] theorem setPanel_power (v : Panel) : (s.setPanel v).power = s.power := rfl
@[simp] theorem setPanel_reader (v : Panel) : (s.setPanel v).reader = s.reader := rfl
@[simp] theorem setPanel_job (v : Panel) : (s.setPanel v).job = s.job := rfl
@[simp] theorem setPanel_pass (v : Panel) : (s.setPanel v).pass = s.pass := rfl
@[simp] theorem setPanel_diu (v : Panel) : (s.setPanel v).diu = s.diu := rfl
@[simp] theorem setPanel_fill (v : Panel) : (s.setPanel v).fill = s.fill := rfl
@[simp] theorem setPanel_share (v : Panel) : (s.setPanel v).share = s.share := rfl
@[simp] theorem setPanel_line (v : Panel) : (s.setPanel v).line = s.line := rfl
@[simp] theorem setPanel_faults (v : Panel) : (s.setPanel v).faults = s.faults := rfl
@[simp] theorem setPanel_panel (v : Panel) : (s.setPanel v).panel = v := rfl
@[simp] theorem setPanel_outs (v : Panel) : (s.setPanel v).outs = s.outs := rfl
@[simp] theorem setPanel_free (v : Panel) : (s.setPanel v).free = s.free := rfl
@[simp] theorem setPanel_pending (v : Panel) : (s.setPanel v).pending = s.pending := rfl

@[simp] theorem setOuts_power (v : Outputs) : (s.setOuts v).power = s.power := rfl
@[simp] theorem setOuts_reader (v : Outputs) : (s.setOuts v).reader = s.reader := rfl
@[simp] theorem setOuts_job (v : Outputs) : (s.setOuts v).job = s.job := rfl
@[simp] theorem setOuts_pass (v : Outputs) : (s.setOuts v).pass = s.pass := rfl
@[simp] theorem setOuts_diu (v : Outputs) : (s.setOuts v).diu = s.diu := rfl
@[simp] theorem setOuts_fill (v : Outputs) : (s.setOuts v).fill = s.fill := rfl
@[simp] theorem setOuts_share (v : Outputs) : (s.setOuts v).share = s.share := rfl
@[simp] theorem setOuts_line (v : Outputs) : (s.setOuts v).line = s.line := rfl
@[simp] theorem setOuts_faults (v : Outputs) : (s.setOuts v).faults = s.faults := rfl
@[simp] theorem setOuts_panel (v : Outputs) : (s.setOuts v).panel = s.panel := rfl
@[simp] theorem setOuts_outs (v : Outputs) : (s.setOuts v).outs = v := rfl
@[simp] theorem setOuts_free (v : Outputs) : (s.setOuts v).free = s.free := rfl
@[simp] theorem setOuts_pending (v : Outputs) : (s.setOuts v).pending = s.pending := rfl

@[simp] theorem setFree_power (v : Nat) : (s.setFree v).power = s.power := rfl
@[simp] theorem setFree_reader (v : Nat) : (s.setFree v).reader = s.reader := rfl
@[simp] theorem setFree_job (v : Nat) : (s.setFree v).job = s.job := rfl
@[simp] theorem setFree_pass (v : Nat) : (s.setFree v).pass = s.pass := rfl
@[simp] theorem setFree_diu (v : Nat) : (s.setFree v).diu = s.diu := rfl
@[simp] theorem setFree_fill (v : Nat) : (s.setFree v).fill = s.fill := rfl
@[simp] theorem setFree_share (v : Nat) : (s.setFree v).share = s.share := rfl
@[simp] theorem setFree_line (v : Nat) : (s.setFree v).line = s.line := rfl
@[simp] theorem setFree_faults (v : Nat) : (s.setFree v).faults = s.faults := rfl
@[simp] theorem setFree_panel (v : Nat) : (s.setFree v).panel = s.panel := rfl
@[simp] theorem setFree_outs (v : Nat) : (s.setFree v).outs = s.outs := rfl
@[simp] theorem setFree_free (v : Nat) : (s.setFree v).free = v := rfl
@[simp] theorem setFree_pending (v : Nat) : (s.setFree v).pending = s.pending := rfl

@[simp] theorem withPending_power (v : List Instr) : (s.withPending v).power = s.power := rfl
@[simp] theorem withPending_reader (v : List Instr) : (s.withPending v).reader = s.reader := rfl
@[simp] theorem withPending_job (v : List Instr) : (s.withPending v).job = s.job := rfl
@[simp] theorem withPending_pass (v : List Instr) : (s.withPending v).pass = s.pass := rfl
@[simp] theorem withPending_diu (v : List Instr) : (s.withPending v).diu = s.diu := rfl
@[simp] theorem withPending_fill (v : List Instr) : (s.withPending v).fill = s.fill := rfl
@[simp] theorem withPending_share (v : List Instr) : (s.withPending v).share = s.share := rfl
@[simp] theorem withPending_line (v : List Instr) : (s.withPending v).line = s.line := rfl
@[simp] theorem withPending_faults (v : List Instr) : (s.withPending v).faults = s.faults := rfl
@[simp] theorem withPending_panel (v : List Instr) : (s.withPending v).panel = s.panel := rfl
@[simp] theorem withPending_outs (v : List Instr) : (s.withPending v).outs = s.outs := rfl
@[simp] theorem withPending_free (v : List Instr) : (s.withPending v).free = s.free := rfl
@[simp] theorem withPending_pending (v : List Instr) : (s.withPending v).pending = v := rfl

end Sys2Proof.Machine
end

