-- ==== Sys2Proof/Laws/Conclude.lean ====
section
/-! SUPPORT. What the end of an event can do, said once: `conclude_frame` for an event that has left the starvation
inputs alone, and one lemma for each of its parts. -/

namespace Sys2Proof.Machine

/-! ## Sending -/

theorem placeStatus_line (s : State) :
    (placeStatus s).line.fifo = s.line.fifo ∧ (placeStatus s).line.bus = s.line.bus := ⟨rfl, rfl⟩

/-- `t` differs from `s` in the sending side of the yard line interface alone. -/
structure Sends (s t : State) : Prop where
  rest : t = { s with line := t.line }
  fifo : t.line.fifo = s.line.fifo
  bus : t.line.bus = s.line.bus

theorem Sends.refl (s : State) : Sends s s := ⟨rfl, rfl, rfl⟩

theorem Sends.trans {s t u : State} (h : Sends s t) (k : Sends t u) : Sends s u where
  rest := by rw [k.rest, h.rest]
  fifo := k.fifo.trans h.fifo
  bus := k.bus.trans h.bus

theorem placeStatus_sends (s : State) : Sends s (placeStatus s) := ⟨rfl, rfl, rfl⟩

theorem refreshStatus_sends (s0 s : State) : Sends s (refreshStatus s0 s) := by
  unfold refreshStatus
  split
  · exact placeStatus_sends s
  · exact Sends.refl s

theorem startNotice_sends (x : Sent) (s : State) : Sends s (startNotice x s) := ⟨rfl, rfl, rfl⟩

theorem chooseFrame_sends (s : State) : Sends s (chooseFrame s) := by
  unfold chooseFrame
  repeat' split
  all_goals exact ⟨rfl, rfl, rfl⟩

theorem fillTx_sends (s : State) : Sends s (fillTx s) := by
  unfold fillTx
  split
  · exact chooseFrame_sends s
  · exact Sends.refl s

theorem sendNext_sends (s : State) : Sends s (sendNext s) := by
  unfold sendNext
  dsimp only
  split
  · exact fillTx_sends s
  · exact (fillTx_sends s).trans (placeStatus_sends _)

/-! ## The own demand -/

/-- `t` differs from `s` in the sending side of the yard line interface and in the own demand and its refresh timer
alone. -/
structure Ends (s t : State) : Prop where
  rest : t = { s with line := t.line, share := t.share }
  fifo : t.line.fifo = s.line.fifo
  bus : t.line.bus = s.line.bus
  share : t.share = { s.share with own := t.share.own, refresh := t.share.refresh }

theorem Sends.ends {s t : State} (h : Sends s t) : Ends s t := by
  have e : t.share = s.share := by rw [h.rest]
  exact { rest := by rw [e]; exact h.rest
          fifo := h.fifo
          bus := h.bus
          share := by rw [e] }

theorem Ends.trans {s t u : State} (h : Ends s t) (k : Ends t u) : Ends s u where
  rest := by rw [k.rest, h.rest]
  fifo := k.fifo.trans h.fifo
  bus := k.bus.trans h.bus
  share := by rw [k.share, h.share]

theorem placeDemand_ends (s : State) : Ends s (placeDemand s) := by
  unfold placeDemand
  split
  · exact (Sends.refl s).ends
  · exact ⟨rfl, rfl, rfl, rfl⟩

theorem setOwn_ends (s : State) (d : Demand) : Ends s (s.setShare { s.share with own := d }) := ⟨rfl, rfl, rfl, rfl⟩

theorem formDemand_ends (s0 s : State) : Ends s (formDemand s0 s) := by
  unfold formDemand
  dsimp only
  split
  · split
    · exact (setOwn_ends s _).trans (placeDemand_ends _)
    · exact setOwn_ends s _
  · exact (Sends.refl s).ends

/-! ## The whole end of an event -/

/-- With the starvation inputs as they were, the conditions are not looked at. -/
theorem lookConditions_same (s0 s : State) (h : starveInputs s = starveInputs s0) : lookConditions s0 s = s := by
  unfold lookConditions
  rw [if_neg (by simp [h])]

/-- What follows the look at the conditions, before the outputs are driven. -/
theorem sent_ends (s0 s : State) : Ends s (sendNext (refreshStatus s0 (formDemand s0 s))) :=
  (formDemand_ends s0 s).trans ((refreshStatus_sends s0 _).ends.trans (sendNext_sends _).ends)

/-- The outputs are a function of the rest of the state. -/
theorem drive_setOuts (s : State) (o : Outputs) : drive (s.setOuts o) = drive s := rfl

/-- Every event ends with the outputs driven. -/
theorem conclude_outs (s0 s : State) : (conclude s0 s).outs = drive (conclude s0 s) := rfl

/-- The blocks as a command left them, after the end of its event: only the sending side of the yard line interface, the
own demand with its refresh timer, the starvation condition last reported and the outputs may differ. -/
structure Concluded (s t : State) : Prop where
  module : SameModule s t
  job : t.job = s.job
  pass : t.pass = s.pass
  diu : t.diu = s.diu
  fill : t.fill = s.fill
  faults : t.faults = s.faults
  panel : t.panel = s.panel
  share : SameShare s t
  line : Sending s.line.fifo s t

theorem driveOutputs_concluded {s t : State} (k : Ends s t) : Concluded s (driveOutputs t) := by
  obtain ⟨r, f, b, w⟩ := k
  have q : t.share.starved = s.share.starved := by rw [w]
  refine ⟨⟨?_, ?_, ?_, ?_⟩, ?_, ?_, ?_, ?_, ?_, ?_, ?_, f, b⟩
  all_goals try (rw [r]; rfl)
  show t.share = { s.share with own := t.share.own, refresh := t.share.refresh, starved := t.share.starved }
  rw [q]
  exact w

/-- The starvation condition as last reported is set to `b`. -/
def reported (b : Bool) (s : State) : State := s.setShare { s.share with starved := b }

theorem reported_concluded (b : Bool) {s t : State} (k : Concluded (reported b s) t) : Concluded s t :=
  { module := k.module, job := k.job, pass := k.pass, diu := k.diu, fill := k.fill, faults := k.faults,
    panel := k.panel, share := k.share, line := k.line }

/-- In a phase other than SPRAY and STARVED a look at the conditions only records what it finds (R86, R87). -/
theorem lookConditions_recorded (s0 s : State) (h1 : s.pass.phase ≠ .spray) (h2 : s.pass.phase ≠ .starved) :
    lookConditions s0 s = s ∨ ∃ b, lookConditions s0 s = reported b s := by
  unfold lookConditions
  split
  · have e : ∀ u : State, u.pass = s.pass → lookResumption u = u := by
      intro u hu
      unfold lookResumption
      rw [if_neg (by rw [hu]; simp [h2])]
    unfold reportStarvation
    dsimp only
    repeat' split
    · exact Or.inl (e _ rfl)
    · exact absurd ‹_› h1
    · exact Or.inr ⟨true, e _ rfl⟩
    · exact Or.inr ⟨false, e _ rfl⟩
  · exact Or.inl rfl

/-- The end of an event that has left the starvation inputs alone. -/
theorem conclude_same (s0 s : State) (h : starveInputs s = starveInputs s0) : Concluded s (conclude s0 s) := by
  unfold conclude
  rw [lookConditions_same s0 s h]
  exact driveOutputs_concluded (sent_ends s0 s)

/-- The end of an event that leads to a phase other than SPRAY and STARVED. -/
theorem conclude_phase (s0 s : State) (h1 : s.pass.phase ≠ .spray) (h2 : s.pass.phase ≠ .starved) :
    Concluded s (conclude s0 s) := by
  unfold conclude
  obtain e | ⟨b, e⟩ := lookConditions_recorded s0 s h1 h2
  · rw [e]
    exact driveOutputs_concluded (sent_ends s0 s)
  · rw [e]
    exact reported_concluded b (driveOutputs_concluded (sent_ends s0 _))

/-- An event of a module in operation. -/
theorem event_running (f : State → State) (s : State) (h : s.power = .running) :
    event f s = .next (conclude s (f s)) := by
  unfold event
  rw [if_pos h]

/-- An event before the end of start-up is not taken. -/
theorem event_not_running (f : State → State) (s : State) (h : s.power ≠ .running) : event f s = .next s := by
  unfold event
  rw [if_neg h]

end Sys2Proof.Machine
end

