-- ==== Sys2Proof/Laws/Engine.lean ====
section
/-! SUPPORT. What the small operations of the pass engine and of the panel can do, one lemma each: the raw
pump-stopped line, the record of a FLUSH left early, the faults that only go to the record, the switches of a press. -/

namespace Sys2Proof.Machine

variable (s : State)

/-! ## `Pass.setLate` -/

@[simp] theorem setLate_late (l : Late) (p : Pass) : (p.setLate l).late = l := rfl
@[simp] theorem setLate_phase (l : Late) (p : Pass) : (p.setLate l).phase = p.phase := rfl
@[simp] theorem setLate_members (l : Late) (p : Pass) : (p.setLate l).members = p.members := rfl
@[simp] theorem setLate_stage (l : Late) (p : Pass) : (p.setLate l).stage = p.stage := rfl
@[simp] theorem setLate_spray (l : Late) (p : Pass) : (p.setLate l).spray = p.spray := rfl
@[simp] theorem setLate_abortCode (l : Late) (p : Pass) : (p.setLate l).abortCode = p.abortCode := rfl
@[simp] theorem setLate_recipeData (l : Late) (p : Pass) : (p.setLate l).recipeData = p.recipeData := rfl

/-! ## The raw pump-stopped line -/

theorem pumpPin_eq (b : Bool) : pumpPin b s = s.setPanel
    { s.panel with raw := { s.panel.raw with pumpStopped := b } } := rfl

/-- The pump moves its raw line alone: every debounced line stands. -/
@[simp] theorem pumpPin_level (b : Bool) : (pumpPin b s).panel.level = s.panel.level := rfl

/-! ## A FLUSH that is left early (R114) -/

theorem leaveFlush_of_inFlush (h : inFlush s.pass = true) : leaveFlush s = s.setDiu s.diu.clearFlushRecord := by
  simp [leaveFlush, h]

theorem leaveFlush_of_not_inFlush (h : inFlush s.pass = false) : leaveFlush s = s := by simp [leaveFlush, h]

/-- The baselines, the window, the histories and the loops stand. -/
theorem clearFlushRecord_frame (d : Diu) :
    d.clearFlushRecord.baseC = d.baseC ∧ d.clearFlushRecord.baseT = d.baseT ∧ d.clearFlushRecord.window = d.window
    ∧ d.clearFlushRecord.histories = d.histories ∧ d.clearFlushRecord.c = d.c ∧ d.clearFlushRecord.t = d.t
    ∧ d.clearFlushRecord.temp = d.temp ∧ d.clearFlushRecord.clock = d.clock :=
  ⟨rfl, rfl, rfl, rfl, rfl, rfl, rfl, rfl⟩

/-! ## Faults that only go to the record (R92, R102) -/

/-- A fault that does not come leaves the state as it is. -/
theorem recordLate_of_not_late (k : FaultKind) (i : Nat) (h : i ∉ s.pass.late.lines k) : recordLate k i s = s := by
  simp [recordLate, h]

/-- While the pass is aborting no phase or window begins to watch a channel. -/
theorem sensorEntry_of_aborting (h : aborting s.pass = true) : sensorEntry s = s := by
  simp [sensorEntry, sensorFault, h]

/-- While the pass is aborting a sensor that is not watched raises nothing. -/
theorem sensorCheck_of_aborting (h : aborting s.pass = true) (hl : s.pass.late.sensor = false) : sensorCheck s = s := by
  simp [sensorCheck, sensorFault, sensorFaultLate, h, hl]

/-! ## Members that leave at their retirement and an abort of the same event (R92, R131) -/

/-- A member noted: only `late.left` has changed. -/
theorem noteLeft_eq (x : Left) : noteLeft x s =
    s.setPass { s.pass with late := { s.pass.late with left := s.pass.late.left ++ [x] } } := rfl

/-- The faults that may still come noted: only `late` has changed. -/
theorem keepWatch_eq : keepWatch s = s.setPass { s.pass with late := lateOfPass s } := rfl

/-- With no member gone at its retirement in this ms an abort finds the pass as it stands. -/
@[simp] theorem takeBack_of_none (h : s.pass.late.left = []) : takeBack s = s := by simp [takeBack, h]

/-- With one such member an abort takes it back. -/
theorem takeBack_of_one (x : Left) (h : s.pass.late.left = [x]) : takeBack s = takeBackOne x s := by
  simp [takeBack, h]

/-- A member already retiring keeps its first retirement (R92). -/
theorem retire_of_retiring (w : Bool) (code : Code) (i : Nat) (m : Member) (hm : member? s.pass i = some m)
    (h : m.retiring.isSome = true) : retire w code i s = s := by
  simp [retire, hm, h]

/-- One member taken back: only the pass and the compartment table have changed. -/
theorem takeBackOne_eq (x : Left) : takeBackOne x s =
    (s.setPass (s.pass.rejoin x.member)).setJob { s.job with
      table := s.job.table.map (fun c =>
        if c.index = x.member.index then { c with state := .washing, keyMark := x.mark } else c) } := rfl

/-! ## The switches of a press (R41, log 4) -/

/-- A press that finds the switches at their debounced levels, as every press made by the clock does, leaves the panel
alone. -/
theorem takeSwitches_same : takeSwitches s.panel.level.select s = s := by
  have hb : s.panel.bounce.filter (fun b => !b.line.selectIn 0) = s.panel.bounce := by
    rw [List.filter_eq_self]
    intro b _
    cases b.line <;> simp [Line.selectIn, lineOn]
  have hd : switchesMoved s.panel.level.select s.panel = 0 := by simp [switchesMoved]
  have hr : s.panel.raw.select &&& ~~~(0 : Lines8) = s.panel.raw.select := by
    show s.panel.raw.select &&& BitVec.allOnes 8 = _
    exact BitVec.and_allOnes
  simp only [takeSwitches, hd, hb, hr]
  simp [State.setPanel]

end Sys2Proof.Machine
end

