-- ==== Sys2Proof/Laws/Work.lean ====
section
/-! SUPPORT. What the operations of the job unit, the drain inspection unit and the pass engine can do, said once: `Work
s t` holds when `t` comes from `s` by such operations. One lemma per operation says that it goes on from a state that
has come so; a proof about a command cites them instead of unfolding the operations. -/

namespace Sys2Proof.Machine

/-- `t` has come from `s` by operations of the job unit, the DIU and the pass engine: the power condition, the tables,
the fill unit, the queue and the outputs are as they were; of the share unit only the steady flag and its timer may
have changed; notices have only joined the FIFO's tail, within its room, and a discarded one has set the gap; a first
fault stands; the tallies, the job record and the last job number are as they were. -/
structure Work (s t : State) : Prop where
  power : t.power = s.power
  reader : t.reader = s.reader
  fill : t.fill = s.fill
  pending : t.pending = s.pending
  outs : t.outs = s.outs
  share : ∃ a b, t.share = { s.share with steady := a, steadyFlag := b }
  line : ∃ l g d, t.line = { s.line with fifo := s.line.fifo ++ l, gap := g, statusDue := d }
  room : FifoBounded s → FifoBounded t
  gap : s.line.gap = true → t.line.gap = true
  fault : ∀ r, s.faults.record = some r → t.faults.record = some r
  flag : OverflowHasRecord s → OverflowHasRecord t
  tallies : t.job.supplyTally = s.job.supplyTally ∧ t.job.agentTally = s.job.agentTally
    ∧ t.job.effluentTally = s.job.effluentTally ∧ t.job.productTally = s.job.productTally
  record : t.job.record = s.job.record ∧ t.job.lastNumber = s.job.lastNumber ∧ t.job.assembly = s.job.assembly
  counter : CounterBounded s → CounterBounded t

theorem Work.refl (s : State) : Work s s where
  power := rfl
  reader := rfl
  fill := rfl
  pending := rfl
  outs := rfl
  share := ⟨s.share.steady, s.share.steadyFlag, rfl⟩
  line := ⟨[], s.line.gap, s.line.statusDue, by simp⟩
  room := id
  gap := id
  fault := fun _ h => h
  flag := id
  tallies := ⟨rfl, rfl, rfl, rfl⟩
  record := ⟨rfl, rfl, rfl⟩
  counter := id

theorem Work.trans {s t u : State} (h : Work s t) (k : Work t u) : Work s u where
  power := k.power.trans h.power
  reader := k.reader.trans h.reader
  fill := k.fill.trans h.fill
  pending := k.pending.trans h.pending
  outs := k.outs.trans h.outs
  share := by
    obtain ⟨a, b, e⟩ := h.share
    obtain ⟨c, d, f⟩ := k.share
    exact ⟨c, d, by rw [f, e]⟩
  line := by
    obtain ⟨l, g, d, e⟩ := h.line
    obtain ⟨l', g', d', f⟩ := k.line
    exact ⟨l ++ l', g', d', by rw [f, e]; simp⟩
  room := k.room ∘ h.room
  gap := k.gap ∘ h.gap
  fault := fun r e => k.fault r (h.fault r e)
  flag := k.flag ∘ h.flag
  tallies := by
    obtain ⟨a, b, c, d⟩ := h.tallies
    obtain ⟨a', b', c', d'⟩ := k.tallies
    exact ⟨a'.trans a, b'.trans b, c'.trans c, d'.trans d⟩
  record := ⟨k.record.1.trans h.record.1, k.record.2.1.trans h.record.2.1, k.record.2.2.trans h.record.2.2⟩
  counter := k.counter ∘ h.counter

/-! ## Updates of one block -/

/-- Leaving a FLUSH leaves the pass alone. -/
@[simp] theorem leaveFlush_pass (s : State) : (leaveFlush s).pass = s.pass := by
  unfold leaveFlush
  split <;> rfl

theorem not_of_idle {P : Prop} (e : Pass.idle.phase = .gathering) : P := nomatch e

theorem setPass_step (t : State) (p : Pass) (hp : p.phase = .gathering → t.pass.phase = .gathering) :
    Work t (t.setPass p) :=
  { Work.refl t with counter := fun c => ⟨c.1, fun e => c.2 (hp e)⟩ }

theorem setDiu_step (t : State) (d : Diu) : Work t (t.setDiu d) := { Work.refl t with }

theorem setPanel_step (t : State) (d : Panel) : Work t (t.setPanel d) := { Work.refl t with }

theorem setFree_step (t : State) (n : Nat) : Work t (t.setFree n) := { Work.refl t with }

theorem setSteady_step (t : State) (a : Option Nat) (b : Bool) :
    Work t (t.setShare { t.share with steady := a, steadyFlag := b }) :=
  { Work.refl t with share := ⟨a, b, rfl⟩ }

theorem setStatusDue_step (t : State) (b : Bool) : Work t (t.setLine { t.line with statusDue := b }) :=
  { Work.refl t with line := ⟨[], t.line.gap, b, by simp⟩ }

theorem setOverflow_step (t : State) (h : t.faults.record.isSome = true) :
    Work t (t.setFaults { t.faults with overflow := true }) :=
  { Work.refl t with flag := fun _ _ => h }

theorem setRecord_step (t : State) (r : FaultRec) (h : t.faults.record = none) :
    Work t (t.setFaults { t.faults with record := some r }) :=
  { Work.refl t with
    fault := fun r' e => by rw [h] at e; cases e
    flag := fun _ _ => rfl }

theorem queueEvent_step (n : Notice) (t : State) : Work t (queueEvent n t) := by
  unfold queueEvent
  split
  · rename_i h
    exact { Work.refl t with
      line := ⟨[n], t.line.gap, t.line.statusDue, rfl⟩
      room := fun _ => by simp [FifoBounded]; omega }
  · exact { Work.refl t with
      line := ⟨[], true, t.line.statusDue, by simp⟩
      gap := fun _ => rfl }

theorem setJobTable_step (t : State) (l : List Compartment) : Work t (t.setJob { t.job with table := l }) :=
  { Work.refl t with }

theorem setJobState_step (t : State) (x : JobState) : Work t (t.setJob { t.job with state := x }) :=
  { Work.refl t with }

theorem setJobEnd_step (t : State) (x : JobState) (c d : Nat) :
    Work t (t.setJob { t.job with state := x, clock := c, clockSub := d }) := { Work.refl t with }

section
variable {s t : State} (h : Work s t)
include h

theorem setPass_work (p : Pass) (hp : p.phase = .gathering → t.pass.phase = .gathering) :
    Work s (t.setPass p) := h.trans (setPass_step t p hp)
theorem setDiu_work (d : Diu) : Work s (t.setDiu d) := h.trans (setDiu_step t d)
theorem setPanel_work (d : Panel) : Work s (t.setPanel d) := h.trans (setPanel_step t d)
theorem setFree_work (n : Nat) : Work s (t.setFree n) := h.trans (setFree_step t n)
theorem setSteady_fields_work (a : Option Nat) (b : Bool) :
    Work s (t.setShare { t.share with steady := a, steadyFlag := b }) := h.trans (setSteady_step t a b)
theorem setStatusDue_work (b : Bool) : Work s (t.setLine { t.line with statusDue := b }) :=
  h.trans (setStatusDue_step t b)
theorem queueEvent_work (n : Notice) : Work s (queueEvent n t) := h.trans (queueEvent_step n t)
theorem setJobTable_work (l : List Compartment) : Work s (t.setJob { t.job with table := l }) :=
  h.trans (setJobTable_step t l)
theorem setJobState_work (x : JobState) : Work s (t.setJob { t.job with state := x }) :=
  h.trans (setJobState_step t x)
theorem setJobEnd_work (x : JobState) (c d : Nat) :
    Work s (t.setJob { t.job with state := x, clock := c, clockSub := d }) := h.trans (setJobEnd_step t x c d)

/-- Operations over a list, each going on from where the last left off. -/
theorem foldl_work {α : Type} (f : State → α → State) (l : List α) (hf : ∀ t, Work s t → ∀ a, Work s (f t a)) :
    Work s (l.foldl f t) := by
  induction l generalizing t with
  | nil => exact h
  | cons a l ih => exact ih (hf t h a)

/-! ## The operations -/

theorem takeLine_work (l : Line) (b : Bool) : Work s (takeLine l b t) := by
  unfold takeLine
  repeat' first
    | exact h | assumption | with_reducible apply setPanel_work

theorem queueEvents_work (ns : List Notice) : Work s (queueEvents ns t) := by
  unfold queueEvents
  repeat' first
    | exact h | assumption | with_reducible apply queueEvent_work | refine foldl_work ?_ _ _ (fun _ _ _ => ?_)

theorem raiseFault_work (k : FaultKind) (comp stage : Option Nat) : Work s (raiseFault k comp stage t) := by
  unfold raiseFault
  split
  · rename_i e
    exact queueEvent_work (h.trans (setRecord_step t _ e)) _
  · rename_i e
    exact h.trans (setOverflow_step t (by simp [e]))

theorem askStatus_work : Work s (askStatus t) := by
  unfold askStatus
  repeat' first
    | exact h | assumption | with_reducible apply setStatusDue_work

theorem refuse_work (r : Reason) : Work s (refuse r t) := by
  unfold refuse
  repeat' first
    | exact h | assumption | with_reducible apply askStatus_work | with_reducible apply setPanel_work

theorem skipKeyed_work : Work s (skipKeyed t) := by
  unfold skipKeyed
  repeat' first
    | exact h | assumption | with_reducible apply askStatus_work | with_reducible apply setPanel_work

theorem updCompartment_work (i : Nat) (f : Compartment → Compartment) : Work s (updCompartment i f t) := by
  unfold updCompartment
  repeat' first
    | exact h | assumption | with_reducible apply setJobTable_work

theorem closeCheck_work : Work s (closeCheck t) := by
  unfold closeCheck
  dsimp only
  repeat' first
    | exact h | assumption | with_reducible apply setPass_work | with_reducible apply setJobTable_work
    | with_reducible apply setJobState_work | with_reducible apply setJobEnd_work
    | with_reducible apply queueEvent_work | exact id | exact not_of_idle | split

theorem finishRelease_work : Work s (finishRelease t) := by
  unfold finishRelease
  dsimp only
  repeat' first
    | exact h | assumption | with_reducible apply setJobTable_work | with_reducible apply setJobState_work
    | with_reducible apply setJobEnd_work | with_reducible apply queueEvent_work

theorem releaseCheck_work : Work s (releaseCheck t) := by
  unfold releaseCheck
  repeat' first
    | exact h | assumption | with_reducible apply finishRelease_work | split

theorem requestAdmission_work (i : Nat) (mark : KeyMark) : Work s (requestAdmission i mark t) := by
  unfold requestAdmission
  repeat' first
    | exact h | assumption | with_reducible apply updCompartment_work

theorem requestReturn_work (b : BatchMember) : Work s (requestReturn b t) := by
  unfold requestReturn
  repeat' first
    | exact h | assumption | with_reducible apply updCompartment_work

theorem requestReturnChecked_work (b : BatchMember) : Work s (requestReturnChecked b t) := by
  unfold requestReturnChecked
  repeat' first
    | exact h | assumption | with_reducible apply closeCheck_work | with_reducible apply requestReturn_work

theorem requestWashing_work (i : Nat) : Work s (requestWashing i t) := by
  unfold requestWashing
  repeat' first
    | exact h | assumption | with_reducible apply updCompartment_work

theorem requestCommit_work (i : Nat) (cert : Certificate) : Work s (requestCommit i cert t) := by
  unfold requestCommit
  repeat' first
    | exact h | assumption | with_reducible apply updCompartment_work

theorem requestIdentify_work (i cls : Nat) : Work s (requestIdentify i cls t) := by
  unfold requestIdentify
  repeat' first
    | exact h | assumption | with_reducible apply updCompartment_work

theorem requestRestore_work (m : Member) : Work s (requestRestore m t) := by
  unfold requestRestore
  repeat' first
    | exact h | assumption | with_reducible apply updCompartment_work

theorem requestReject_work (i : Nat) : Work s (requestReject i t) := by
  unfold requestReject
  repeat' first
    | exact h | assumption | with_reducible apply updCompartment_work

theorem requestWithdraw_work (i : Nat) : Work s (requestWithdraw i t) := by
  unfold requestWithdraw
  repeat' first
    | exact h | assumption | with_reducible apply updCompartment_work

theorem requestOutcome_work (code : Code) (m : Member) : Work s (requestOutcome code m t) := by
  unfold requestOutcome
  repeat' first
    | exact h | assumption | with_reducible apply requestRestore_work | with_reducible apply requestReject_work
    | with_reducible apply requestWithdraw_work | split

theorem respond_work (tag : List Byte) (o : JobOutcome) (number : Nat) (detail : List Nat) :
    Work s (respond tag o number detail t) := by
  unfold respond
  repeat' first
    | exact h | assumption | with_reducible apply queueEvent_work

theorem answerRecall_work : Work s (answerRecall t) := by
  unfold answerRecall
  repeat' first
    | exact h | assumption | with_reducible apply respond_work | with_reducible apply queueEvent_work | split

theorem sampleLoops_work : Work s (sampleLoops t) := by
  unfold sampleLoops
  repeat' first
    | exact h | assumption | with_reducible apply setDiu_work

theorem recordFlush_work : Work s (recordFlush t) := by
  unfold recordFlush
  dsimp only
  repeat' first
    | exact h | assumption | with_reducible apply setDiu_work | split

theorem formBaseline_work (ch : Channel) : Work s (formBaseline ch t) := by
  unfold formBaseline
  dsimp only
  repeat' first
    | exact h | assumption | with_reducible apply setDiu_work | split

theorem startFlush_work (n : Inspection) : Work s (startFlush n t) := by
  unfold startFlush
  dsimp only
  repeat' first
    | exact h | assumption | with_reducible apply setDiu_work

theorem endPassDiu_work : Work s (endPassDiu t) := by
  unfold endPassDiu
  repeat' first
    | exact h | assumption | with_reducible apply setDiu_work

theorem openRecord_work (w : Window) : Work s (openRecord w t) := by
  unfold openRecord
  repeat' first
    | exact h | assumption | with_reducible apply setDiu_work

theorem uninspectWindow_work : Work s (uninspectWindow t) := by
  unfold uninspectWindow
  repeat' first
    | exact h | assumption | with_reducible apply setDiu_work

theorem closeRecord_work (w : Window) : Work s (closeRecord w t) := by
  unfold closeRecord
  repeat' first
    | exact h | assumption | with_reducible apply setDiu_work

theorem dropHistory_work (i : Nat) : Work s (dropHistory i t) := by
  unfold dropHistory
  repeat' first
    | exact h | assumption | with_reducible apply setDiu_work

theorem endPass_work (o : PassOutcome) (certs : List Notice) : Work s (endPass o certs t) := by
  unfold endPass
  dsimp only
  repeat' first
    | exact h | assumption | with_reducible apply closeCheck_work | with_reducible apply queueEvents_work
    | with_reducible apply releaseCheck_work | with_reducible apply endPassDiu_work
    | with_reducible apply setPass_work | with_reducible apply queueEvent_work | exact id | exact not_of_idle

theorem enterHeld_work : Work s (enterHeld t) := by
  unfold enterHeld
  repeat' first
    | exact h | assumption | with_reducible apply setPass_work | exact id | exact not_of_idle
    | (intro e; simp at e)

theorem enterStarved_work : Work s (enterStarved t) := by
  unfold enterStarved
  repeat' first
    | exact h | assumption | with_reducible apply setPass_work | exact id | exact not_of_idle
    | (intro e; simp at e)

theorem enterDrainDown_work : Work s (enterDrainDown t) := by
  unfold enterDrainDown
  repeat' first
    | exact h | assumption | with_reducible apply setPass_work | exact id | exact not_of_idle
    | (intro e; simp at e)

theorem enterRunDown_work (d : Dest) (fromSpray : Bool) : Work s (enterRunDown d fromSpray t) := by
  unfold enterRunDown
  repeat' first
    | exact h | assumption | with_reducible apply setPass_work | exact id | exact not_of_idle
    | (intro e; simp at e)

theorem runDownToHeld_work (fromSpray : Bool) : Work s (runDownToHeld fromSpray t) := by
  unfold runDownToHeld
  dsimp only
  repeat' first
    | exact h | assumption | with_reducible apply enterRunDown_work | with_reducible apply enterHeld_work
    | split

theorem runDownToStarved_work : Work s (runDownToStarved t) := by
  unfold runDownToStarved
  dsimp only
  repeat' first
    | exact h | assumption | with_reducible apply enterRunDown_work | with_reducible apply enterStarved_work
    | with_reducible apply setPass_work | exact id | exact not_of_idle | split

theorem runDownToDrainDown_work : Work s (runDownToDrainDown t) := by
  unfold runDownToDrainDown
  dsimp only
  repeat' first
    | exact h | assumption | with_reducible apply enterRunDown_work | with_reducible apply enterDrainDown_work
    | split

theorem clearSteady_work : Work s (clearSteady t) := by
  unfold clearSteady
  repeat' first
    | exact h | assumption | with_reducible apply setSteady_fields_work

theorem leaveFlush_work : Work s (leaveFlush t) := by
  unfold leaveFlush
  repeat' first
    | exact h | assumption | with_reducible apply setDiu_work | split

theorem takeBackOne_work (x : Left) : Work s (takeBackOne x t) := by
  unfold takeBackOne
  repeat' first
    | exact h | assumption | with_reducible apply updCompartment_work | with_reducible apply setPass_work | exact id

theorem takeBack_work : Work s (takeBack t) := by
  unfold takeBack
  exact foldl_work h _ _ (fun _ h' _ => takeBackOne_work h' _)

theorem takeAbort_work (code : Code) : Work s (takeAbort code t) := by
  unfold takeAbort
  dsimp only
  repeat' first
    | exact h | assumption | with_reducible apply askStatus_work | with_reducible apply clearSteady_work
    | with_reducible apply leaveFlush_work | with_reducible apply setPass_work | with_reducible apply setDiu_work
    | exact (fun e => by rw [leaveFlush_pass]; exact e)

theorem abortPass_work (code : Code) : Work s (abortPass code t) := by
  unfold abortPass
  dsimp only
  repeat' first
    | exact h | assumption | with_reducible apply takeAbort_work | with_reducible apply takeBack_work
    | with_reducible apply runDownToDrainDown_work
    | with_reducible apply enterDrainDown_work | with_reducible apply setPass_work | exact id
    | exact not_of_idle | split

theorem leave_work (i : Nat) (code : Code) : Work s (leave i code t) := by
  unfold leave
  dsimp only
  repeat' first
    | exact h | assumption | with_reducible apply dropHistory_work | with_reducible apply requestOutcome_work
    | with_reducible apply closeCheck_work | with_reducible apply setPass_work | exact id | exact not_of_idle
    | split

theorem noteLeft_work (x : Left) : Work s (noteLeft x t) := by
  unfold noteLeft
  repeat' first
    | exact h | assumption | with_reducible apply setPass_work | exact id

theorem keepWatch_work : Work s (keepWatch t) := by
  unfold keepWatch
  repeat' first
    | exact h | assumption | with_reducible apply setPass_work | exact id

theorem retire_work (atWindowEnd : Bool) (code : Code) (i : Nat) : Work s (retire atWindowEnd code i t) := by
  unfold retire
  dsimp only
  repeat' first
    | exact h | assumption | with_reducible apply leave_work | with_reducible apply noteLeft_work
    | with_reducible apply uninspectWindow_work | with_reducible apply keepWatch_work
    | with_reducible apply setPass_work | exact id | exact not_of_idle | split

theorem countOwn_work (i : Nat) : Work s (countOwn i t) := by
  unfold countOwn
  repeat' first
    | exact h | assumption | with_reducible apply setPass_work | exact id

theorem countPass_work (cls : Nat) : Work s (countPass cls t) := by
  unfold countPass
  repeat' first
    | exact h | assumption | with_reducible apply setPass_work | exact id | exact not_of_idle | split

theorem memberFault_work (atWindowEnd : Bool) (k : FaultKind) (i : Nat) : Work s (memberFault atWindowEnd k i t) := by
  unfold memberFault
  dsimp only
  repeat' first
    | exact h | assumption | with_reducible apply raiseFault_work | with_reducible apply countOwn_work
    | with_reducible apply retire_work | split

theorem passFault_work (k : FaultKind) (cls : Nat) (f : State → State)
    (hf : ∀ t, Work s t → Work s (f t)) : Work s (passFault k cls f t) := by
  unfold passFault
  dsimp only
  repeat' first
    | exact h | assumption | (apply hf) | with_reducible apply raiseFault_work
    | with_reducible apply countPass_work | with_reducible apply abortPass_work | split

theorem skipInspection_work : Work s (skipInspection t) := by
  unfold skipInspection
  dsimp only
  repeat' first
    | exact h | assumption | with_reducible apply uninspectWindow_work | with_reducible apply setPass_work
    | with_reducible apply setDiu_work | exact id | exact not_of_idle | split

theorem raiseSensor_work : Work s (raiseSensor t) := by
  unfold raiseSensor
  repeat' first
    | exact h | assumption | with_reducible apply passFault_work | with_reducible apply skipInspection_work
    | with_reducible apply setPass_work | exact id

theorem sensorEntry_work : Work s (sensorEntry t) := by
  unfold sensorEntry
  repeat' first
    | exact h | assumption | with_reducible apply raiseSensor_work | split

theorem sensorCheck_work : Work s (sensorCheck t) := by
  unfold sensorCheck
  repeat' first
    | exact h | assumption | with_reducible apply raiseSensor_work | split

theorem faultEach_work (k : FaultKind) (l : List Nat) : Work s (faultEach k l t) := by
  unfold faultEach
  repeat' first
    | exact h | assumption | with_reducible apply memberFault_work | refine foldl_work ?_ _ _ (fun _ _ _ => ?_)

theorem headCheck_work : Work s (headCheck t) := by
  unfold headCheck
  repeat' first
    | exact h | assumption | with_reducible apply faultEach_work

theorem openNext_work : Work s (openNext t) := by
  unfold openNext
  repeat' first
    | exact h | assumption | with_reducible apply sensorEntry_work | with_reducible apply openRecord_work
    | with_reducible apply setPass_work | exact id | exact not_of_idle | split

theorem pumpPin_work (b : Bool) : Work s (pumpPin b t) := by
  unfold pumpPin
  repeat' first
    | exact h | assumption | with_reducible apply setPanel_work

theorem pumpAtRest_work : Work s (pumpAtRest t) := by
  unfold pumpAtRest
  repeat' first
    | exact h | assumption | with_reducible apply pumpPin_work

theorem standInDrain_work (l : List Nat) : Work s (standInDrain l t) := by
  unfold standInDrain
  repeat' first
    | exact h | assumption | with_reducible apply pumpAtRest_work | with_reducible apply clearSteady_work
    | with_reducible apply setPass_work
    | exact id | exact not_of_idle | (intro e; simp at e)

theorem drainRetiring_work : Work s (drainRetiring t) := by
  unfold drainRetiring
  repeat' first
    | exact h | assumption | with_reducible apply openNext_work | with_reducible apply standInDrain_work
    | with_reducible apply leaveFlush_work

theorem turnRunDown_work : Work s (turnRunDown t) := by
  unfold turnRunDown
  repeat' first
    | exact h | assumption | with_reducible apply leaveFlush_work | with_reducible apply setPass_work
    | exact (fun e => by rw [leaveFlush_pass]; exact e)

theorem turnToRetiring_work : Work s (turnToRetiring t) := by
  unfold turnToRetiring
  repeat' first
    | exact h | assumption | with_reducible apply drainRetiring_work | with_reducible apply turnRunDown_work
    | split

theorem settleRetired_work : Work s (settleRetired t) := by
  unfold settleRetired
  repeat' first
    | exact h | assumption | with_reducible apply endPass_work | with_reducible apply turnToRetiring_work
    | with_reducible apply keepWatch_work | split

theorem eitherOrder_work (b : Bool) (f g : State → State) (hf : ∀ t, Work s t → Work s (f t))
    (hg : ∀ t, Work s t → Work s (g t)) : Work s (eitherOrder b f g t) := by
  unfold eitherOrder
  repeat' first
    | exact h | assumption | (apply hf) | (apply hg) | with_reducible apply setFree_work | split

theorem flushFindings_work : Work s (flushFindings t) := by
  unfold flushFindings
  repeat' first
    | exact h | assumption | with_reducible apply settleRetired_work | with_reducible apply eitherOrder_work
    | with_reducible apply sensorEntry_work | with_reducible apply headCheck_work

theorem enterFlush_work : Work s (enterFlush t) := by
  unfold enterFlush
  dsimp only
  repeat' first
    | exact h | assumption | with_reducible apply recordFlush_work | with_reducible apply flushFindings_work
    | with_reducible apply sampleLoops_work | with_reducible apply startFlush_work
    | with_reducible apply pumpAtRest_work | with_reducible apply setPass_work | exact id | exact not_of_idle
    | (intro e; simp at e)

theorem resumeFlush_work : Work s (resumeFlush t) := by
  unfold resumeFlush
  dsimp only
  repeat' first
    | exact h | assumption | with_reducible apply recordFlush_work | with_reducible apply flushFindings_work
    | with_reducible apply sampleLoops_work | with_reducible apply pumpAtRest_work
    | with_reducible apply setPass_work | exact id | exact not_of_idle | (intro e; simp at e)

theorem enterDry_work : Work s (enterDry t) := by
  unfold enterDry
  repeat' first
    | exact h | assumption | with_reducible apply pumpAtRest_work | with_reducible apply setPass_work | exact id
    | exact not_of_idle | (intro e; simp at e)

theorem enterStage_work : Work s (enterStage t) := by
  unfold enterStage
  repeat' first
    | exact h | assumption | with_reducible apply enterDry_work | with_reducible apply enterFlush_work | split

theorem commitMember_work (m : Member) : Work s (commitMember m t) := by
  unfold commitMember
  repeat' first
    | exact h | assumption | with_reducible apply requestCommit_work | with_reducible apply setPass_work
    | exact id

theorem retiringLeave_work : Work s (retiringLeave t) := by
  unfold retiringLeave
  repeat' first
    | exact h | assumption | with_reducible apply leave_work | refine foldl_work ?_ _ _ (fun _ _ _ => ?_)
    | split

theorem commitPass_work : Work s (commitPass t) := by
  unfold commitPass
  dsimp only
  repeat' first
    | exact h | assumption | with_reducible apply retiringLeave_work | with_reducible apply endPass_work
    | with_reducible apply commitMember_work | refine foldl_work ?_ _ _ (fun _ _ _ => ?_) | split

theorem beginStep_work (n : NextStep) : Work s (beginStep n t) := by
  unfold beginStep
  repeat' first
    | exact h | assumption | with_reducible apply enterStage_work | with_reducible apply enterFlush_work
    | with_reducible apply setPass_work | exact id | exact not_of_idle | split

theorem goOn_work (n : NextStep) : Work s (goOn n t) := by
  unfold goOn
  repeat' first
    | exact h | assumption | with_reducible apply enterHeld_work | with_reducible apply beginStep_work
    | with_reducible apply setPass_work | exact id | exact not_of_idle | split

theorem advanceOrCommit_work : Work s (advanceOrCommit t) := by
  unfold advanceOrCommit
  repeat' first
    | exact h | assumption | with_reducible apply goOn_work | with_reducible apply commitPass_work | split

theorem retireUnpassed_work : Work s (retireUnpassed t) := by
  unfold retireUnpassed
  repeat' first
    | exact h | assumption | with_reducible apply retire_work | refine foldl_work ?_ _ _ (fun _ _ _ => ?_)
    | split

theorem decideProbe_work (m : Member) : Work s (decideProbe m t) := by
  unfold decideProbe
  repeat' first
    | exact h | assumption | with_reducible apply endPass_work | with_reducible apply retire_work
    | with_reducible apply requestIdentify_work | with_reducible apply setPass_work | exact id
    | exact not_of_idle | split

theorem endStageRun_work : Work s (endStageRun t) := by
  unfold endStageRun
  dsimp only
  repeat' first
    | exact h | assumption | with_reducible apply decideProbe_work | with_reducible apply advanceOrCommit_work
    | with_reducible apply goOn_work | with_reducible apply retireUnpassed_work
    | with_reducible apply endPass_work | split

theorem drainOn_work : Work s (drainOn t) := by
  unfold drainOn
  repeat' first
    | exact h | assumption | with_reducible apply endStageRun_work | with_reducible apply openNext_work | split

theorem drainOnOrEnd_work : Work s (drainOnOrEnd t) := by
  unfold drainOnOrEnd
  repeat' first
    | exact h | assumption | with_reducible apply endPass_work | with_reducible apply drainOn_work | split

theorem drainFindings_work : Work s (drainFindings t) := by
  unfold drainFindings
  repeat' first
    | exact h | assumption | with_reducible apply eitherOrder_work | with_reducible apply raiseSensor_work
    | with_reducible apply headCheck_work | (intro _ _) | split

theorem enterDrain_work : Work s (enterDrain t) := by
  unfold enterDrain
  dsimp only
  repeat' first
    | exact h | assumption | with_reducible apply drainOnOrEnd_work | with_reducible apply drainFindings_work
    | with_reducible apply standInDrain_work

theorem resumeDrain_work : Work s (resumeDrain t) := by
  unfold resumeDrain
  repeat' first
    | exact h | assumption | with_reducible apply drainOnOrEnd_work | with_reducible apply drainFindings_work
    | with_reducible apply setPass_work | exact id | exact not_of_idle | (intro e; simp at e)

theorem settle_work : Work s (settle t) := by
  unfold settle
  repeat' first
    | exact h | assumption | with_reducible apply endPass_work | with_reducible apply turnToRetiring_work
    | with_reducible apply enterDrain_work | with_reducible apply keepWatch_work | split

theorem sprayFindings_work : Work s (sprayFindings t) := by
  unfold sprayFindings
  repeat' first
    | exact h | assumption | with_reducible apply eitherOrder_work | with_reducible apply faultEach_work
    | (intro _ _)

theorem runSpray_work : Work s (runSpray t) := by
  unfold runSpray
  dsimp only
  repeat' first
    | exact h | assumption | with_reducible apply settle_work | with_reducible apply sprayFindings_work
    | with_reducible apply pumpPin_work | with_reducible apply setPass_work | exact id | exact not_of_idle
    | (intro e; simp at e)

theorem setSteady_work : Work s (setSteady t) := by
  unfold setSteady
  repeat' first
    | exact h | assumption | with_reducible apply setSteady_fields_work

theorem enterSpray_work : Work s (enterSpray t) := by
  unfold enterSpray
  dsimp only
  repeat' first
    | exact h | assumption | with_reducible apply setSteady_work | with_reducible apply runDownToStarved_work
    | with_reducible apply runSpray_work | with_reducible apply setPass_work | exact id | exact not_of_idle
    | split

theorem endRunDown_work : Work s (endRunDown t) := by
  unfold endRunDown
  repeat' first
    | exact h | assumption | with_reducible apply enterHeld_work | with_reducible apply enterDrain_work
    | with_reducible apply runSpray_work | with_reducible apply enterStarved_work
    | with_reducible apply drainRetiring_work | with_reducible apply enterDrainDown_work | split

theorem resumeSpray_work : Work s (resumeSpray t) := by
  unfold resumeSpray
  repeat' first
    | exact h | assumption | with_reducible apply enterDrain_work | with_reducible apply enterStarved_work
    | with_reducible apply runSpray_work | split

theorem clearVerify_work (i : Nat) : Work s (clearVerify i t) := by
  unfold clearVerify
  repeat' first
    | exact h | assumption | with_reducible apply setPass_work | exact id

theorem verifyClass_work (i : Nat) (w : Window) : Work s (verifyClass i w t) := by
  unfold verifyClass
  dsimp only
  repeat' first
    | exact h | assumption | with_reducible apply clearVerify_work | with_reducible apply memberFault_work
    | split

theorem finalVerdict_work (i : Nat) (w : Window) (v : Verdict) : Work s (finalVerdict i w v t) := by
  unfold finalVerdict
  repeat' first
    | exact h | assumption | with_reducible apply retire_work | with_reducible apply setPass_work | exact id
    | exact not_of_idle | split

theorem takeVerdict_work (i : Nat) (m : Member) (w : Window) : Work s (takeVerdict i m w t) := by
  unfold takeVerdict
  repeat' first
    | exact h | assumption | with_reducible apply finalVerdict_work | with_reducible apply verifyClass_work
    | with_reducible apply setPass_work | exact id | exact not_of_idle | split

theorem slowCheck_work (i : Nat) (e : EndCause) : Work s (slowCheck i e t) := by
  unfold slowCheck
  repeat' first
    | exact h | assumption | with_reducible apply memberFault_work | split

theorem takeReport_work (w : Window) (e : EndCause) : Work s (takeReport w e t) := by
  unfold takeReport
  dsimp only
  repeat' first
    | exact h | assumption | with_reducible apply leave_work | with_reducible apply slowCheck_work
    | with_reducible apply takeVerdict_work | split

theorem afterWindow_work : Work s (afterWindow t) := by
  unfold afterWindow
  repeat' first
    | exact h | assumption | with_reducible apply endPass_work | with_reducible apply endStageRun_work
    | with_reducible apply enterHeld_work | with_reducible apply openNext_work
    | with_reducible apply setPass_work | exact id | exact not_of_idle | split

theorem endTurn_work (i : Nat) : Work s (endTurn i t) := by
  unfold endTurn
  repeat' first
    | exact h | assumption | with_reducible apply setPass_work | exact id

theorem endWindow_work (w : Window) (e : EndCause) : Work s (endWindow w e t) := by
  unfold endWindow
  repeat' first
    | exact h | assumption | with_reducible apply afterWindow_work | with_reducible apply takeReport_work
    | with_reducible apply endTurn_work | with_reducible apply closeRecord_work

theorem drainDownMember_work (abort : Code) (m : Member) : Work s (drainDownMember abort m t) := by
  unfold drainDownMember
  repeat' first
    | exact h | assumption | with_reducible apply requestWithdraw_work
    | with_reducible apply requestOutcome_work | with_reducible apply setPass_work | exact id
    | exact not_of_idle | split

theorem endDrainDown_work : Work s (endDrainDown t) := by
  unfold endDrainDown
  repeat' first
    | exact h | assumption | with_reducible apply endPass_work | with_reducible apply drainDownMember_work
    | refine foldl_work ?_ _ _ (fun _ _ _ => ?_) | split

theorem joinBatch_work (c : Compartment) (mark : KeyMark) (recipe : Nat) : Work s (joinBatch c mark recipe t) := by
  unfold joinBatch
  dsimp only
  repeat' first
    | exact h | assumption | with_reducible apply requestAdmission_work | with_reducible apply setPass_work
    | exact id

theorem offer_work (i : Nat) : Work s (offer i t) := by
  unfold offer
  repeat' first
    | exact h | assumption | with_reducible apply joinBatch_work | with_reducible apply skipKeyed_work
    | with_reducible apply refuse_work | split

theorem cancelBatch_work : Work s (cancelBatch t) := by
  unfold cancelBatch
  repeat' first
    | exact h | assumption | with_reducible apply requestReturnChecked_work | with_reducible apply setPass_work
    | refine foldl_work ?_ _ _ (fun _ _ _ => ?_) | exact id | exact not_of_idle

theorem dropFromBatch_work (b : BatchMember) : Work s (dropFromBatch b t) := by
  unfold dropFromBatch
  dsimp only
  repeat' first
    | exact h | assumption | with_reducible apply requestReturnChecked_work | with_reducible apply setPass_work
    | exact id

end

end Sys2Proof.Machine
end

