-- ==== Sys2Proof/Tests/Slice0.lean ====
section
/-! SUPPORT. The author's own tests: ill-formed commands refused, the manual's worked figures, and for each statement
with hypotheses a state and operands that meet them. Expected results come from the manual's text; the comment of each
test names the rule or the worked example. -/

namespace Sys2Proof.Tests
open Sys2Proof Sys2Proof.Machine

/-! ## States to test on, built from a few parts -/

/-- A stage of 500 L and 250 L/min a head. -/
def stage (kind : StageKind) (temperature dose : Nat) (insp : Inspection) : Stage where
  kind := kind
  temperature := temperature
  volume := 500
  flow := 250
  timeLimit := 240
  dose := dose
  inspection := insp
  repeatLimit := if kind = .finalRinse then 6 else 1
  windowMax := 120

/-- A recipe of a cold rinse without inspection, a hot rinse inspected on both channels, a WASH with a dose, a
FINAL_RINSE on both channels and two DRY stages. -/
def recipe : Recipe where
  stages := [stage .rinse 0 0 .none, stage .rinse 60 0 .both, stage .wash 70 8 .none, stage .finalRinse 60 0 .both,
             stage .dry 0 0 .none, stage .dry 0 0 .none]
  tolerance := 1
  holdLimit := 600
  starveLimit := 240
  c := ⟨1024, 250, 800, 50⟩
  t := ⟨512, 5, 40, 30⟩

/-- Yard of the worked example of section 9.6: 6,000 L, marks 600, 2,400, 3,600 and 5,100 L, 300 L/min. -/
def yard : Yard where
  mode := .proportional
  capacity := 6000
  highMark := 5100
  resumeMark := 3600
  startMark := 2400
  stopMark := 600
  maxRate := 300

/-- An in-service bay 6 with every line seated and a fresh supply. -/
def bay : State := { State.reset with
  power := .running
  reader := { Reader.reset with
    node := 6, mark := .inService
    tables := some { yard := yard, classes := List.replicate 15 ⟨true, .food, 300, 520⟩
                     recipes := List.replicate 31 (some recipe), map := List.replicate 225 12 } }
  share := { Share.reset with plant := .normal, stale := some 2000, hotCap := 900, effCap := 500, hotShare := 600 }
  panel := { Panel.reset with level := { Lines.reset with head := 0xFF, arm := 0xFF } } }

/-- A SOILED compartment of 6,000 L. -/
def soiled (i : Nat) : Compartment where
  index := i
  volume := 6000
  lastClass := 4
  nextClass := 7
  recipe := some 12
  keyed := false
  fillTarget := 5400
  state := .soiled
  attempts := 0
  keyMark := .none
  certificate := none
  metered := 0
  fillRecord := none

/-- A certificate fit for class 7. -/
def certificate : Certificate where
  passNumber := 1
  recipe := 12
  fitFor := 7
  grade := .b
  residueC := some 3
  residueT := some 1
  repeatsUsed := 1
  filteredFaults := 1
  commitTime := 900

/-- A job in a state, with its compartments. -/
def job (st : JobState) (l : List Compartment) : JobUnit := { JobUnit.reset with
  state := st
  record := some { tag := blankTag, count := l.length, minGrade := .b, tolerance := 0, verify := false, detect := 0,
                   number := 44 }
  table := l
  lastNumber := 44 }

/-- The bay with a job OPEN. -/
def openBay (l : List Compartment) : State := { bay with job := job .opened l }

/-- A member that has had water. -/
def member (i : Nat) : Member where
  index := i
  ckState := .soiled
  ckClass := 4
  passed := false
  retiring := none
  own := 0
  wetted := true
  verify := false
  signature := none

/-- A formed pass of two members in a stage and a phase. -/
def pass (ph : Phase) (stage : Nat) : Pass := { Pass.idle with
  phase := ph
  number := 3
  recipe := 12
  recipeData := some recipe
  tolerance := 1
  members := [member 1, member 2]
  stage := stage
  spray := if ph = .spray then some freshSpray else none }

/-- The bay with two compartments WASHING and a pass. -/
def passBay (p : Pass) : State := { bay with
  job := job .opened [{ soiled 1 with state := .washing }, { soiled 2 with state := .washing }]
  pass := p }

/-- A fill of compartment 1 in a phase. -/
def fillOf (ph : FillPhase) : FillCtx := { freshFill (soiled 1) with phase := ph, close := 26460, count := 100 }

/-- The bay filling compartment 1. -/
def fillBay (ph : FillPhase) : State := { openBay [{ soiled 1 with state := .filling }] with
  fill := ⟨some (fillOf ph), 20⟩ }

/-- A batch of the compartments listed, gathering. -/
def gathering (l : List Nat) : Pass := { Pass.idle with
  phase := .gathering
  batch := l.map (fun i => ⟨i, .soiled⟩)
  batchRecipe := if l = [] then none else some 12
  window := some 30000 }

/-- The bay with a batch gathering. -/
def batchBay (l : List Nat) : State := { openBay [soiled 1, soiled 2, { soiled 3 with keyed := true }] with
  pass := gathering l }

/-- A frame of a kind from a node with its bytes. -/
def frame (kind node : Nat) (bytes : List Nat) : Frame :=
  ⟨false, false, identOf kind node 0, bytes.map (BitVec.ofNat 8)⟩

/-- The next state of an outcome. -/
def nextOf (o : Host.Outcome State Fault Refusal) : Option State :=
  match o with
  | .next t => some t
  | .fault _ => none
  | .refused _ => none

/-! ## States that meet the hypotheses of the statements -/

/-- The bay with the hot share below half the nominal flow of two heads. -/
def starving (s : State) : State := { s with share := { s.share with hotShare := 249 } }

/-- The bay with the pump-stopped line off. -/
def pumping (s : State) : State := { s with
  panel := { s.panel with level := { s.panel.level with pumpStopped := false } } }

/-- The bay with the key on. -/
def keyed (s : State) : State := { s with panel := { s.panel with level := { s.panel.level with key := true } } }

/-- The bay with a fault on record. -/
def faulted (s : State) : State := { s with
  faults := ⟨some { kind := .busOff, source := .line, compartment := none, stage := none, time := 7 }, false⟩ }

/-- The bay draining member 1, member 2 to follow, water having flowed. -/
def draining : State :=
  let s := passBay { pass .drain 1 with drainList := [1, 2], draining := some 1 }
  { s with diu := { s.diu with window := some { windowFor 1 s with pulses := 2 } } }

/-- The window of `draining`. -/
def openWindow : Window := { windowFor 1 (passBay (pass .drain 1)) with pulses := 2 }

/-- A SPRAY of the WASH with pulses counted. -/
def spraying (supply agent : Nat) : State := passBay { pass .spray 3 with
  spray := some { freshSpray with supply := supply, agent := agent } }

/-- A run-down from the SPRAY of the WASH toward a destination. -/
def running (d : Dest) : State := passBay { pass .runDown 3 with
  dest := some d, fromSpray := true, spray := some freshSpray, runDown := some 10 }

/-- HELD with a resume point. -/
def held (st : Nat) (r : ResumePoint) : State := passBay { pass .held st with
  resumeAt := some r, nextStep := if r = .next then some .following else none, drainList := [2],
  spray := some freshSpray, holdTimer := some 1 }

/-- DRAIN_DOWN of an abort. -/
def drainingDown (code : Code) : State := passBay { pass .drainDown 1 with
  abortCode := some code, drainDown := some ⟨1, 1, false, 11⟩ }

/-- An assembly that lacks compartment 1. -/
def assembly : Assembly where
  header := ⟨blankTag, 2, .b, 1, true, 0⟩
  slots := [none, some ⟨6000, 4, 7, false, 5400⟩]
  priorClosed := false
  deadline := 1

/-- The bay ASSEMBLING. -/
def assembling : State := { bay with job := { job .assembling [] with assembly := some assembly } }

/-- A compartment frame of compartment `i` with a volume. -/
def slotFrame (i volume : Nat) : Frame := frame 4 6 [i, volume / 256, volume % 256, 4 + 16 * 7, 0, 0, 0]

/-- The bay with three peer entries, its own among them. -/
def sharing (s : State) : State := { s with share := { s.share with
  peers := [⟨2, ⟨400, 0, 1, false, 1100⟩, 5⟩, ⟨6, ⟨400, 0, 1, false, 200⟩, 5⟩, ⟨9, ⟨400, 100, 2, false, 300⟩, 5⟩] } }

/-- A DEMAND of a node. -/
def demandFrame (node : Nat) : Frame := frame 1 node [1, 194, 0, 0, 6, 0, 99]

/-- StepTakesFrontCommand and EmptyQueueRunsTheClock: a queue, and a bay with nothing due. -/
theorem test_meets_EmptyQueueRunsTheClock :
    (State.reset.pending = [] ∧ State.reset.power ≠ .running)
    ∧ (bay.pending = [] ∧ bay.power = .running ∧ dueEvents bay = []) := by decide

theorem test_meets_ResetLineHeldAndReleased :
    (State.reset.power ≠ .running ∧ Instr.clearFault ≠ .resetLineHeld ∧ Instr.clearFault ≠ .resetLineRelease)
    ∧ { State.reset with power := .held }.power = .held ∧ State.reset.power ≠ .held := by decide

theorem test_meets_EndOfStartUp : State.reset.power = .reading := by decide

theorem test_meets_ClearFault : bay.power = .running ∧ (faulted bay).faults.record.isSome = true := by decide

theorem test_meets_FaultLampShowsTheRecord :
    OutputsDriven { bay with outs := drive bay } ∧ bay.power = .running := ⟨rfl, rfl⟩

theorem test_meets_KeyOnAndRefusedLampExpiry : (keyed bay).power = .running := by decide

theorem test_meets_StartChecksInOrder :
    (bay.power = .running ∧ bay.job.state ≠ .opened)
    ∧ (batchBay [1]).pass.phase = .gathering
    ∧ (passBay (pass .held 1)).pass.phase ≠ .none
    ∧ selection 0 (openBay [soiled 1]) = []
    ∧ (selection 0x1F (openBay [soiled 1, soiled 2, soiled 3, soiled 4, soiled 5])).length = 5
    ∧ selection 0xF (openBay [soiled 1, soiled 2, soiled 3, soiled 4]) = [1, 2, 3, 4] := by decide

theorem test_meets_StartExaminesACompartment :
    (openBay [soiled 1]).power = .running ∧ (openBay [soiled 1]).job.state = .opened
    ∧ (openBay [soiled 1]).pass.phase = .none ∧ (openBay [soiled 1]).job.passCounter < 255
    ∧ selection 1 (openBay [soiled 1]) = [1] ∧ compartment? (openBay [soiled 1]) 1 = some (soiled 1) := by decide

theorem test_meets_ButtonsThatCancelABatch :
    (batchBay [1, 3]).power = .running ∧ (batchBay [1, 3]).pass.phase = .gathering
    ∧ (batchBay [1, 3]).job.state = .opened ∧ (batchBay []).pass.batch = [] := by decide

theorem test_meets_AddByItsChecks :
    ((batchBay [1]).power = .running ∧ (batchBay [1]).pass.phase = .gathering
      ∧ selection 2 (batchBay [1]) = [2] ∧ (selection 3 (batchBay [1])).length ≠ 1 ∧ bay.pass.phase ≠ .gathering
      ∧ compartment? (batchBay [1]) 2 = some (soiled 2) ∧ admission (batchBay [1]) (soiled 2) = .admitted .none 12)
    ∧ (admission (batchBay [1]) { soiled 2 with state := .barred } = .refused .barred
      ∧ admission (batchBay [1]) { soiled 2 with state := .clean } = .refused .notSoiled
      ∧ admission (batchBay [1]) { soiled 3 with keyed := true } = .skipped
      ∧ admission (batchBay [1]) (soiled 9) = .refused .headNotSeated
      ∧ admission (batchBay [1]) { soiled 2 with state := .unknown } = .refused .probeAlone
      ∧ admission (batchBay [1]) { soiled 2 with recipe := some 13 } = .refused .recipeDiffers
      ∧ admission (batchBay [1, 2, 3, 4]) (soiled 5) = .refused .batchFull
      ∧ admission (batchBay [1, 2, 3]) (soiled 4) = .admitted .none 12) := by decide

theorem test_meets_HoldByPhase :
    ((passBay (pass .flush 1)).power = .running ∧ (passBay (pass .flush 1)).pass.phase ≠ .gathering
      ∧ (pumping (passBay (pass .spray 1))).panel.level.pumpStopped = false
      ∧ (passBay (pass .dry 5)).panel.level.pumpStopped = true)
    ∧ ((batchBay [1]).power = .running ∧ (batchBay [1]).pass.phase = .gathering
      ∧ (batchBay [1]).pass.batch ≠ []) := by decide

theorem test_meets_ResumeByPhase :
    ((held 2 .spray).power = .running ∧ (held 2 .spray).pass.phase = .held
      ∧ volumeReached (held 2 .spray).pass = false ∧ starvation (held 2 .spray) = false
      ∧ unseated (held 2 .spray) = [] ∧ flooded (held 2 .spray) = [] ∧ (held 2 .spray).pass.abortCode = none
      ∧ allRetiring (held 2 .spray).pass = false)
    ∧ starvation (starving (held 2 .spray)) = true
    ∧ (volumeReached { (held 2 .spray).pass with spray := some { freshSpray with supply := 2000 } } = true
      ∧ namedAbsent (held 2 .spray) = false ∧ ∃ m ∈ (held 2 .spray).pass.members, m.passed = false)
    ∧ ((held 2 .flush).pass.members ≠ [] ∧ 3600000 ≤ (held 2 .flush).panel.loopC
      ∧ 3600000 ≤ (held 2 .flush).panel.loopT ∧ (held 2 .flush).diu.c.present = true
      ∧ (held 2 .flush).diu.t.present = true)
    ∧ ((held 2 .drain).pass.drainList = [2] ∧ namedAbsent (held 2 .drain) = false)
    ∧ (recipeOf (held 4 .next).pass).stages[(held 4 .next).pass.stage]? = some (stage .dry 0 0 .none)
    ∧ ((held 3 .next).pass.nextStep = some .following
      ∧ (recipeOf (held 3 .next).pass).stages[4 - 1]? = some (stage .finalRinse 60 0 .both)) := by decide

/-- Member 1, without water, has just left the FLUSH of the RINSE by its head's drop. -/
def justUnseated : State := passBay { pass .flush 2 with
  tolerance := 0, members := [member 2]
  departed := [⟨1, .retired .headUnseated, 0⟩]
  late := { Late.none with
    left := [⟨{ member 1 with retiring := some .headUnseated, wetted := false }, .none⟩] } }

/-- Member 1 has just left by early retirement, member 2 drains in the FINAL_RINSE. -/
def justLeft : State := passBay { pass .drain 4 with
  members := [member 2], drainList := [2], draining := some 2
  departed := [⟨1, .retired .residuePersists, 0⟩]
  late := { Late.none with left := [⟨{ member 1 with retiring := some .residuePersists }, .none⟩] } }

theorem test_meets_AbandonAndAbortsByPhase :
    (filling? bay = none ∧ (drainingDown .abandoned).pass.abortCode.isSome = true
      ∧ (fillBay .trim).fill.ctx = some (fillOf .trim) ∧ (fillOf .trim).compartment ∈ selection 1 (fillBay .trim))
    ∧ (formed (held 2 .spray).pass ∧ (held 2 .spray).pass.phase ≠ .drainDown
      ∧ (held 2 .spray).pass.abortCode = none ∧ (held 2 .spray).pass.phase = .held
      ∧ filling? (held 2 .spray) = none)
    ∧ (formed (pass .starved 2) ∧ (passBay (pass .starved 2)).pass.phase = .starved)
    ∧ ((running .held).pass.phase = .runDown ∧ draining.pass.phase = .drain)
    ∧ ((held 2 .spray).pass.late.left = []
      ∧ justLeft.pass.late.left = [⟨{ member 1 with retiring := some .residuePersists }, .none⟩]
      ∧ formed justLeft.pass ∧ justLeft.pass.abortCode = none ∧ filling? justLeft = none) := by decide

theorem test_meets_FillChecksInOrder :
    let c := { soiled 1 with state := .clean, certificate := some certificate }
    let s := openBay [c]
    (s.power = .running ∧ s.pass.phase ≠ .gathering ∧ s.job.state = .opened ∧ selection 1 s = [1]
      ∧ s.fill.ctx.isSome = false ∧ compartment? s 1 = some c ∧ fillCheck s c = none)
    ∧ (fillCheck s { c with nextClass := 8 } = some .wrongClass
      ∧ fillCheck s { c with keyed := true } = some .keyed)
    ∧ ((fillCtxFor 20 (soiled 1)).phase = .fullFlow
      ∧ (fillCtxFor 20 { soiled 1 with metered := 26864 }).phase = .trim
      ∧ (fillCtxFor 20 { soiled 1 with metered := 26865 }).phase = .runOn) := by decide

theorem test_meets_StopsOfAFill :
    (fillBay .trim).power = .running ∧ (fillBay .trim).fill.ctx = some (fillOf .trim)
    ∧ (fillBay .trim).pass.phase ≠ .spray ∧ (fillBay .trim).pass.phase ≠ .drainDown
    ∧ { spraying 1 0 with fill := ⟨some (fillOf .trim), 20⟩ }.fill.ctx = some (fillOf .trim)
    ∧ (fillOf .trim).compartment ∉ (fillBay .trim).pass.late.probes
    ∧ (fillOf .trim).phase ≠ .runOn ∧ (fillBay .runOn).fill.ctx = some (fillOf .runOn) := by decide

/-- Two members, the first of them KEYED, and a third compartment. -/
def keyedPass (p : Pass) : State := { bay with
  job := job .opened [{ soiled 1 with state := .washing, keyMark := .keyed }, { soiled 2 with state := .washing },
                      soiled 3]
  pass := p }

/-- A pass whose members have had no water. -/
def unwetted (p : Pass) : Pass := { p with members := p.members.map (fun m => { m with wetted := false }) }

theorem test_meets_KeyOffByPhase :
    ((keyed (fillBay .trim)).pass.phase = .none
      ∧ compartment? (keyed (fillBay .trim)) 1 = some { soiled 1 with state := .filling })
    ∧ (∃ x ∈ (batchBay [3]).job.table, terminal x = false ∧ ∀ b ∈ (batchBay [3]).pass.batch, b.index ≠ x.index)
    ∧ (let s := keyedPass (pass .spray 2)
       formed s.pass ∧ s.pass.phase ≠ .drainDown ∧ s.pass.abortCode = none
       ∧ (s.pass.members.map (·.index)).Nodup ∧ keyMarkOf s 1 = .keyed ∧ ownWindowOpen 1 s = false
       ∧ (∀ m ∈ s.pass.members, m.wetted = true) ∧ (∃ m ∈ s.pass.members, keyMarkOf s m.index ≠ .keyed)
       ∧ volumeReached s.pass = false ∧ starvation s = false)
    ∧ (let s := keyedPass (pass .spray 2)
       let marked (supply : Nat) : Pass := { s.pass with
         members := [{ member 1 with retiring := some .keyRemoved }, member 2]
         spray := some { freshSpray with supply := supply } }
       volumeReached (marked 1000) = true ∧ volumeReached (marked 999) = false ∧ unseated s = [] ∧ flooded s = []
       ∧ namedAbsent s = false ∧ inService s ∧ nominalFlow (marked 999) ≠ nominalFlow s.pass
       ∧ resumption { s with pass := marked 999 } = true
       ∧ resumption { s with pass := marked 999, share := { s.share with hotShare := 124 } } = false)
    ∧ { pass .runDown 2 with abortCode := some .abandoned }.abortCode.isSome = true
    ∧ (let s := keyedPass { pass .flush 2 with members := [member 1] }
       s.pass.members ≠ [] ∧ ∀ m ∈ s.pass.members, m.retiring = none → keyMarkOf s m.index = .keyed)
    ∧ (let s := keyedPass (unwetted (pass .flush 2))
       (∀ m ∈ s.pass.members, m.wetted = false)
       ∧ ∃ x ∈ s.job.table, terminal x = false ∧ keyMarkOf s x.index ≠ .keyed) := by decide

theorem test_meets_LinesThatRetireNoMember :
    ((batchBay [1]).pass.batch.find? (fun x => x.index == 1) = some ⟨1, .soiled⟩
      ∧ (batchBay [1]).faults.record = none ∧ (∀ b ∈ (batchBay [1]).pass.batch, b.index ≠ 2)
      ∧ 1 ∉ (held 2 .spray).pass.late.heads)
    ∧ ((drainingDown .holdTooLong).pass.phase = .drainDown
      ∧ member? (drainingDown .holdTooLong).pass 1 = some (member 1)
      ∧ (drainingDown .holdTooLong).faults.record = none ∧ filling? (drainingDown .holdTooLong) ≠ some 1) := by decide

theorem test_meets_LinesRetireTheirMember :
    let s := keyedPass (pass .spray 2)
    let u := keyedPass (unwetted (pass .flush 2))
    let v := keyedPass { unwetted (pass .flush 2) with members := [{ member 1 with wetted := false }] }
    (s.power = .running ∧ s.pass.abortCode = none ∧ member? s.pass 1 = some (member 1)
      ∧ (s.pass.members.map (·.index)).Nodup ∧ ownWindowOpen 1 s = false ∧ s.faults.record = none
      ∧ s.line.fifo.length ≤ 12 ∧ filling? s ≠ some 1 ∧ starvation s = false ∧ (member 1).wetted = true
      ∧ (∃ x ∈ s.pass.members.filter (fun x => x.index != 1), x.retiring = none) ∧ volumeReached s.pass = false)
    ∧ (u.pass.phase = .flush ∧ member? u.pass 1 = some { member 1 with wetted := false }
      ∧ ∃ x ∈ u.job.table, x.index ≠ 1 ∧ terminal x = false)
    ∧ v.pass.members.filter (fun x => x.index != 1) = []
    ∧ ((∀ x ∈ s.pass.members, headOn s x.index = true) ∧ namedAbsent s = false
      ∧ volumeReached { s.pass with members := [{ member 1 with retiring := some .overflow }, member 2]
                                    spray := some { freshSpray with supply := 1000 } } = true
      ∧ volumeReached { s.pass with members := [member 2]
                                    spray := some { freshSpray with supply := 1000 } } = true)
    ∧ (keyedPass { pass .drain 2 with members := [member 1] }).pass.phase = .drain := by decide

/-- A pass with what may still come in this ms. -/
def lately (l : Late) (p : Pass) : State := passBay { p with late := l }

theorem test_meets_SecondFaultIsRecordedOnly :
    let r := lately { Late.none with heads := [1], probes := [1] }
      { pass .spray 2 with members := [{ member 1 with retiring := some .overflow }, member 2] }
    let a := lately { Late.none with sensor := true } { pass .runDown 2 with abortCode := some .abandoned }
    (r.power = .running ∧ r.line.fifo.length ≤ 12
      ∧ member? r.pass 1 = some { member 1 with retiring := some .overflow }
      ∧ (r.pass.members.map (·.index)).Nodup ∧ 1 ∈ r.pass.late.lines .headUnseated
      ∧ 1 ∈ r.pass.late.lines .overflow ∧ filling? r ≠ some 1)
    ∧ (a.pass.abortCode.isSome = true ∧ names (stageOf a.pass).inspection .turbidity = true
      ∧ a.pass.late.sensor = true) := by decide

theorem test_meets_RunDownEnds :
    (running .held).pass.phase = .runDown ∧ (running .held).pass.dest = some .held
    ∧ (running .drainDown).pass.dest = some .drainDown
    ∧ (volumeReached (starving (running .starved)).pass = false
      ∧ resumption (starving (running .starved)) = false)
    ∧ ((running .drain).pass.dest = some .drain ∧ (running .drain).pass.abortCode = none
      ∧ ∀ m ∈ [{ member 1 with retiring := some .keyRemoved }], m.retiring.isSome = true) := by decide

theorem test_meets_MeterPulsesCount :
    (spraying 1998 0).power = .running ∧ (spraying 1998 0).pass.phase = .spray
    ∧ 1998 + 1 < volumeTarget (spraying 1998 0).pass ∧ formed (spraying 1998 0).pass ∧ ¬ formed bay.pass := by decide

theorem test_meets_SprayEndsInDrainAtItsVolume :
    (spraying 1999 3).pass.spray = some { freshSpray with supply := 1999, agent := 3 }
    ∧ 1999 + 1 = volumeTarget (spraying 1999 3).pass ∧ (spraying 1999 3).pass.abortCode = none
    ∧ unseated (spraying 1999 3) = [] ∧ namedAbsent (spraying 1999 3) = false := by decide

theorem test_meets_AgentPumpStopsAtItsAllowance :
    agentPumpOn (spraying 100 3).pass = true ∧ agentPumpOn (spraying 100 4).pass = false := by decide

theorem test_meets_ProductPulsesMeterTheFill :
    (fillBay .fullFlow).fill.ctx = some (fillOf .fullFlow) ∧ (fillOf .fullFlow).count < (fillOf .fullFlow).close
    ∧ (fillOf .trim).count < (fillOf .trim).close ∧ (fillOf .trim).phase = .trim := by decide

theorem test_meets_RunOnEndsTheFill :
    (fillBay .runOn).power = .running ∧ (fillBay .runOn).fill.ctx = some (fillOf .runOn)
    ∧ (fillOf .runOn).phase = .runOn ∧ (fillBay .runOn).line.fifo.length ≤ 12
    ∧ { fillOf .runOn with learn := true }.learn = true ∧ (fillOf .runOn).learn = false
    ∧ { fillOf .trim with count := 26460 }.close ≤ 26460 := by decide

theorem test_meets_SamplesOutsideFlushAndDrain :
    (Loop.reset.gain = 1 ∧ { Loop.reset with gain := 8 }.gain = 8
      ∧ decide (3599999 < 3600000) = { Loop.reset with run := 3 }.present
      ∧ decide (3600000 < 3600000) ≠ Loop.reset.present)
    ∧ (bay.power = .running ∧ bay.pass.phase ≠ .flush ∧ bay.pass.phase ≠ .drain ∧ bay.pass.late = Late.none)
    ∧ (let s := passBay (pass .spray 2)
       s.pass.phase = .spray ∧ (stageOf s.pass).hot = true ∧ s.pass.spray = some freshSpray
       ∧ s.pass.abortCode = none ∧ s.faults.record = none ∧ s.line.fifo.length ≤ 12
       ∧ (conditionLoop .temperature 11200000 s.diu.temp).reading + 5 < (stageOf s.pass).temperature
       ∧ (stageOf s.pass).temperature ≤ (conditionLoop .temperature 11400000 s.diu.temp).reading + 5)
    ∧ (freshSpray.lowMs + 250 < 60000 ∧ 60000 ≤ { freshSpray with lowMs := 59750 }.lowMs + 250) := by decide

theorem test_meets_PassFaultsByTolerance :
    let s := passBay (pass .flush 2)
    let u := spraying 5 0
    (s.power = .running ∧ s.pass.abortCode = none ∧ s.faults.record = none ∧ s.pass.skipped = false
      ∧ s.line.fifo.length ≤ 12 ∧ names (stageOf s.pass).inspection .turbidity = true
      ∧ filtered s.pass.tolerance 3 = true ∧ filtered s.pass.tolerance 1 = false)
    ∧ (u.pass.phase = .spray ∧ u.pass.spray.isSome = true ∧ (stageOf u.pass).hot = true ∧ unseated u = []
      ∧ namedAbsent u = false ∧ sprayingMembers u.pass ≠ [] ∧ filtered 1 2 = false ∧ filtered 2 2 = true
      ∧ u.pass.late.left = [])
    ∧ (justUnseated.pass.phase = .flush ∧ justUnseated.pass.abortCode = none ∧ justUnseated.faults.record = none
      ∧ filtered justUnseated.pass.tolerance 3 = false
      ∧ justUnseated.pass.late.left
        = [⟨{ member 1 with retiring := some .headUnseated, wetted := false }, .none⟩]) := by decide

theorem test_meets_FlushFormsTheBaseline :
    let p := { pass .flush 1 with recipeData := some { recipe with stages := [stage .rinse 60 0 .cond] } }
    (p.abortCode = none ∧ p.phase = .flush ∧ p.skipped = false ∧ (stageOf p).inspection = .cond
      ∧ (stageOf (pass .flush 2)).inspection = .both
      ∧ (conditionLoop .conductivity 4000001 Loop.reset).present = true
      ∧ (conditionLoop .turbidity 4000001 Loop.reset).present = true)
    ∧ (names (stageOf p).inspection .conductivity = true ∧ names (stageOf p).inspection .turbidity = false)
    ∧ names (stageOf (pass .flush 2)).inspection .turbidity = true := by decide

theorem test_meets_FlushEndsInSpray :
    let s := passBay (pass .flush 4)
    (s.power = .running ∧ s.pass.phase = .flush ∧ starvation s = false ∧ unseated s = [] ∧ flooded s = []
      ∧ s.pass.abortCode = none ∧ 0 < volumeTarget s.pass)
    ∧ starvation (starving s) = true ∧ starvation { s with share := { s.share with hotShare := 250 } } = false := by
  decide

/-- Member 1 draining, member 2 to follow, in stage `k`, its window changed by `f`. -/
def drainingIn (k : Nat) (f : Window → Window) : State :=
  let s := keyedPass { pass .drain k with drainList := [1, 2], draining := some 1 }
  { s with diu := { s.diu with window := some (f (windowFor 1 s)) } }

/-- A window after 11 samples without a pulse: the next one is its last. -/
def nearEnd (w : Window) : Window := { w with firstPulse := true, zeroRun := 11, sample := 100, drained := 80 }

theorem test_meets_InspectedWindowTakesItsSamples :
    let s := drainingIn 2 id
    let u := drainingIn 2 nearEnd
    (member? s.pass 1 = some (member 1) ∧ s.pass.skipped = false ∧ s.power = .running ∧ s.pass.phase = .drain
      ∧ s.pass.abortCode = none ∧ s.pass.late.low = none ∧ s.diu.window = some (windowFor 1 s)
      ∧ (conditionLoop .conductivity 8000000 s.diu.c).present = true
      ∧ (conditionLoop .turbidity 8000000 s.diu.t).present = true)
    ∧ (windowSample false false s (windowFor 1 s)).endCause = none
    ∧ (u.diu.window = some (nearEnd (windowFor 1 u))
      ∧ (windowSample false false u (nearEnd (windowFor 1 u))).endCause = some .drained) := by decide

theorem test_meets_WindowsEndByTheirCauses :
    let s := drainingIn 2 nearEnd
    let slow := drainingIn 2 (fun w => { w with sample := 39 })
    (s.power = .running ∧ s.pass.phase = .drain ∧ s.pass.abortCode = none ∧ s.pass.pendingHold = false
      ∧ s.pass.late.low = none ∧ s.diu.window = some (nearEnd (windowFor 1 s)) ∧ member? s.pass 1 = some (member 1)
      ∧ s.line.fifo.length ≤ 12 ∧ s.faults.record = none ∧ (stageOf s.pass).kind = .rinse
      ∧ s.pass.drainList = [1, 2] ∧ (∃ y ∈ s.pass.members, y.index = 2)
      ∧ (∃ y ∈ s.job.table, y.index ≠ 1 ∧ terminal y = false)
      ∧ (windowSample false false s (nearEnd (windowFor 1 s))).endCause = some .drained)
    ∧ ((windowSample false false slow { windowFor 1 slow with sample := 39 }).endCause = some .noFlow
      ∧ slow.diu.window = some { windowFor 1 slow with sample := 39 }) := by decide

theorem test_meets_DrainWindowEndGoesOn :
    draining.power = .running ∧ draining.pass.phase = .drain ∧ draining.diu.window = some openWindow
    ∧ openWindow.member = 1 ∧ openWindow.inspected = false ∧ draining.pass.abortCode = none ∧ 0 < openWindow.pulses
    ∧ openWindow.sample + 1 ≠ openWindow.maxSamples ∧ (stageOf draining.pass).inspection = .none
    ∧ draining.pass.drainList = [1, 2] ∧ member? draining.pass 1 = some (member 1)
    ∧ draining.pass.pendingHold = false ∧ draining.pass.late.low = none ∧ allRetiring draining.pass = false := by
  decide

/-- A window with the peaks of section 7.3's probe. -/
def peaks (c t : Nat) (w : Window) : Window :=
  { w with drained := 400, c := some ⟨16000, c, false⟩, t := some ⟨160, t, false⟩ }

/-- A probe of compartment 1 at the end of its window. -/
def probing : State := keyedPass { pass .drain 1 with
  recipeData := some probeRecipe, probe := true, members := [member 1], drainList := [1] }

theorem test_meets_ProbeIsIdentifiedOrRetired :
    (probing.line.fifo.length ≤ 12 ∧ probing.pass.phase = .drain ∧ probing.pass.abortCode = none
      ∧ probing.pass.probe = true ∧ (stageOf probing.pass).kind = .preRinse ∧ probing.pass.members = [member 1]
      ∧ (windowFor 1 probing).member = 1 ∧ (member 1).signature = none ∧ probing.pass.drainList = [1]
      ∧ (windowFor 1 probing).inspected = true)
    ∧ (∃ e, class? probing 4 = some e ∧ e.sigLow ≤ 320 ∧ 320 ≤ e.sigHigh)
    ∧ (detectMask probing).getLsbD 4 = false := by
  refine ⟨by decide, ⟨⟨true, .food, 300, 520⟩, by decide⟩, by decide⟩

theorem test_meets_DeclaredClassIsVerified :
    let s := keyedPass { pass .drain 1 with
      recipeData := some { recipe with stages := [stage .preRinse 0 0 .both] }
      members := [{ member 1 with verify := true }, member 2] }
    (s.pass.phase = .drain ∧ s.pass.abortCode = none ∧ s.pass.probe = false
      ∧ (stageOf s.pass).kind = .preRinse ∧ (stageOf s.pass).inspection = .both
      ∧ member? s.pass 1 = some { member 1 with verify := true } ∧ (windowFor 1 s).inspected = true
      ∧ compartment? s 1 = some { soiled 1 with state := .washing, keyMark := .keyed }
      ∧ class? s (soiled 1).lastClass = some ⟨true, .food, 300, 520⟩)
    ∧ (signatureOf (peaks 400 650 (windowFor 1 s)) = some ⟨416, true⟩
      ∧ signatureOf (peaks 400 830 (windowFor 1 s)) = some ⟨531, true⟩)
    ∧ (s.faults.record = none ∧ s.line.fifo.length ≤ 12
      ∧ ∃ x ∈ s.job.table, x.index ≠ 1 ∧ terminal x = false) := by decide

/-- The end of the FINAL_RINSE's DRAIN, its runs and its members given. -/
def rinsed (runs : Nat) (l : List Member) : State :=
  keyedPass { pass .drain 4 with drainList := [], members := l, repeats := runs }

/-- A member that has passed. -/
def done (i : Nat) : Member := { member i with passed := true }

theorem test_meets_FinalRinseRunEnds :
    let s := rinsed 5 [done 1, member 2]
    (s.pass.phase = .drain ∧ s.pass.drainList = [] ∧ s.pass.members ≠ [] ∧ s.pass.probe = false
      ∧ s.pass.abortCode = none ∧ (stageOf s.pass).kind = .finalRinse ∧ (s.pass.members.map (·.index)).Nodup
      ∧ (∀ m ∈ s.pass.members, m.retiring = none) ∧ s.line.fifo.length ≤ 12 ∧ s.pass.pendingHold = false
      ∧ unseated s = [] ∧ s.diu.c.present = true ∧ 3600000 ≤ s.panel.loopC)
    ∧ ((stageOf s.pass).repeatLimit = 6 ∧ (rinsed 5 [done 1, done 2]).pass.members.filter (fun m => !m.passed) = []
      ∧ (rinsed 6 [member 1, member 2]).pass.members.filter (·.passed) = [])
    ∧ ((recipeOf s.pass).stages[s.pass.stage]? = some (stage .dry 0 0 .none)
      ∧ ∃ x ∈ s.job.table, x.index ≠ 2 ∧ terminal x = false) := by decide

theorem test_meets_ForecastIsTheLeastCountOfRuns : (100 < 400) ∧ (800 ≠ 0) ∧ 400 * 65536 / 800 < 65536 := by decide

theorem test_meets_FinalRinseReportDecides :
    let s := passBay { pass .drain 4 with repeats := 1 }
    let w (peak : Nat) : Window := { windowFor 1 s with drained := 90, c := some ⟨10, peak, false⟩,
                                                        t := some ⟨10, 1, false⟩ }
    (stageOf s.pass).kind = .finalRinse ∧ (w 0).inspected = true ∧ member? s.pass 1 = some (member 1)
    ∧ memberVerdict (w 250) = some .clear ∧ memberVerdict (w 251) = some .marginal
    ∧ memberVerdict (w 801) = some .dirty
    ∧ (s.pass.phase = .drain
      ∧ ([⟨1, [900, 800], [7]⟩] : List History).find? (fun h => h.index == 1) = some ⟨1, [900, 800], [7]⟩)
    ∧ windowForecast (some recipe.c) (some ⟨10, 1, false⟩) 6000 [900, 800] = some (forecastOf 800 900 300) := by decide

theorem test_meets_DryTimeExpiryGoesOnOrCommits :
    let s := passBay (pass .dry 5)
    let u := passBay (pass .dry 6)
    (s.pass.phase = .dry ∧ s.pass.pendingHold = false
      ∧ (recipeOf s.pass).stages[s.pass.stage]? = some (stage .dry 0 0 .none))
    ∧ ((recipeOf u.pass).stages.length ≤ u.pass.stage ∧ u.pass.members ≠ []
      ∧ (∀ m ∈ u.pass.members, m.retiring = none) ∧ (u.pass.members.map (·.index)).Nodup
      ∧ (u.job.table.map (·.index)).Nodup ∧ u.line.fifo.length ≤ 12) := by decide

theorem test_meets_DrainDownEnds :
    (drainingDown .jobReleased).pass.phase = .drainDown
    ∧ (drainingDown .jobReleased).pass.abortCode = some .jobReleased
    ∧ ((drainingDown .jobReleased).pass.members.map (·.index)).Nodup := by decide

theorem test_meets_AppendWindowExpires :
    ((batchBay []).pass.phase = .gathering ∧ (batchBay []).pass.batch = [])
    ∧ ((batchBay [1, 3]).pass.batch ≠ [] ∧ (stageOf (formedPass (batchBay [1, 3]))).kind ≠ .dry
      ∧ (∀ b ∈ (batchBay [1, 3]).pass.batch, lineOn (batchBay [1, 3]).panel.level.head b.index = true)
      ∧ (batchBay [1, 3]).diu.c.present = true ∧ 3600000 ≤ (batchBay [1, 3]).panel.loopC
      ∧ ((batchBay [1, 3]).pass.batch.map (·.index)).Nodup) := by decide

theorem test_meets_JobHeaderByState :
    (bay.power = .running ∧ bay.line.fifo.length ≤ 12)
    ∧ takenFromOffice 3 8 (frame 3 6 [0, 0, 0, 0, 0, 8, 0, 0]) bay
    ∧ ¬ takenFromOffice 3 8 (frame 3 5 [0, 0, 0, 0, 0, 8, 0, 0]) bay
    ∧ (readHeader (frame 3 6 [0, 0, 0, 0, 0, 8, 0, 0])).count = 8
    ∧ (readHeader (frame 3 6 [0, 0, 0, 0, 0, 9, 0, 0])).count = 9
    ∧ (assembling.job.state = .assembling ∧ assembling.job.assembly = some assembly) := by decide

theorem test_meets_CompartmentFramesBuildTheJob :
    assembling.power = .running ∧ assembling.pass.phase = .none ∧ assembling.job.assembly = some assembly
    ∧ takenFromOffice 4 7 (slotFrame 1 500) assembling
    ∧ (readIndex (slotFrame 2 500) = 2 ∧ assembly.header.count < readIndex (slotFrame 3 500))
    ∧ none ∈ assembly.slots.set 1 (some (readSlot (slotFrame 2 500)))
    ∧ assembly.slots.set 0 (some (readSlot (slotFrame 1 499)))
        = [readSlot (slotFrame 1 499), ⟨6000, 4, 7, false, 5400⟩].map some
    ∧ (readSlot (slotFrame 1 499)).volume < 500 ∧ 500 ≤ (readSlot (slotFrame 1 500)).volume := by decide

theorem test_meets_ReleaseAndRecallByJobState :
    takenFromOffice 2 0 (frame 2 6 []) bay ∧ ¬ takenFromOffice 2 0 (frame 2 7 []) bay
    ∧ ((openBay [soiled 1]).pass.phase = .none ∧ (openBay [soiled 1]).fill.ctx = none)
    ∧ ((fillBay .trim).job.state = .opened ∧ (fillBay .trim).pass.phase = .none)
    ∧ ((batchBay [1]).pass.phase = .gathering ∧ ((batchBay [1]).pass.batch.map (·.index)).Nodup
      ∧ { soiled 1 with state := .scheduled }.state = .scheduled)
    ∧ (formed (spraying 1 0).pass ∧ (spraying 1 0).pass.abortCode = none)
    ∧ takenFromOffice 5 0 (frame 5 6 []) bay := by decide

theorem test_meets_SupplyRecordAndItsStaleness :
    (taken 0 5 (frame 0 0 [4, 26, 1, 244, 0]) bay ∧ bay.reader.mark = .inService
      ∧ byteAt (frame 0 0 [4, 26, 1, 244, 0]) 4 = 0 ∧ 2 ≤ byteAt (frame 0 0 [4, 26, 1, 244, 2]) 4)
    ∧ bay.share.stale.isSome = true ∧ State.reset.share.stale = none := by decide

theorem test_meets_PeerTableFollowsTheNotices :
    (sharing bay).share.peers.Pairwise (fun a b => a.node < b.node)
    ∧ (taken 1 7 (demandFrame 11) (sharing bay) ∧ frameNode (demandFrame 11) = 11
      ∧ 11 ≠ nodeOf (sharing bay))
    ∧ (taken 13 0 (frame 13 9 []) (sharing bay) ∧ frameNode (frame 13 9 []) = 9)
    ∧ (∃ p ∈ (sharing bay).share.peers, p.node = 9) ∧ taken 12 0 (frame 12 9 []) (sharing bay) := by decide

theorem test_meets_OwnNodeHeardLocksOut :
    frameNode (demandFrame 6) = nodeOf (sharing bay) ∧ taken 1 7 (demandFrame 6) (sharing bay)
    ∧ taken 13 0 (frame 13 6 []) (sharing bay) ∧ taken 12 0 (frame 12 6 []) (sharing bay)
    ∧ bay.share.lockout = false := by decide

theorem test_meets_NoticeTimersPlaceTheirNotices :
    bay.power = .running ∧ { bay.share with refresh := some 0 }.refresh.isSome = true ∧ bay.share.lockout = false
    ∧ bay.line.bus = .active ∧ bay.line.tx = none ∧ { bay.share with steady := some 0 }.steady.isSome = true := by
  decide

theorem test_meets_SumpSampleDrivesThePumpOut :
    inService bay ∧ bay.reader.tables.isSome = true ∧ bay.pass.phase ≠ .spray ∧ bay.pass.phase ≠ .starved
    ∧ bay.share.pumpOut = false ∧ { bay.reader with mark := .nodeZero }.mark ≠ .inService := by decide

theorem test_meets_DivisionOfAUtility :
    ((sharing bay).share.peers.map (·.node)).Nodup
    ∧ (∃ p ∈ (sharing bay).share.peers, p.demand.steady = false)
    ∧ State.reset.share.stale = none := by decide

theorem test_meets_StarvationAndResumption :
    let s := passBay (pass .spray 2)
    let u := starving (passBay { pass .starved 2 with spray := some freshSpray })
    (inService s ∧ s.pass.phase = .spray ∧ s.share.starved = false ∧ starvation (starving s) = true
      ∧ starvation s = false ∧ yard.resumeMark < yard.highMark)
    ∧ (u.pass.phase = .starved ∧ unseated u = [] ∧ flooded u = [] ∧ u.pass.abortCode = none
      ∧ volumeReached u.pass = false ∧ allRetiring u.pass = false ∧ resumption u = false
      ∧ resumption { u with share := s.share } = true ∧ namedAbsent u = false ∧ sprayingMembers u.pass ≠ [])
    ∧ ((running .starved).pass.phase = .runDown ∧ (running .starved).pass.dest = some .starved
      ∧ resumption (running .starved) = true ∧ volumeReached (running .starved).pass = false
      ∧ volumeReached { pass .runDown 3 with spray := some { freshSpray with supply := 2000 } } = true
      ∧ namedAbsent (running .starved) = false ∧ sprayingMembers (running .starved).pass ≠ []) := by decide

theorem test_meets_FramesGoOutAndTheBusRecovers :
    let f := frameOf (.demand Demand.zero) 0 bay
    f.content = .demand Demand.zero ∧ bay.share.lockout = false ∧ { bay.share with lockout := true }.lockout = true
    ∧ bay.pass.phase ≠ .spray ∧ bay.pass.phase ≠ .starved ∧ bay.line.bus = .active
    ∧ (frameOf (.status (bayStatus bay)) 0 bay).content ≠ .demand Demand.zero := by decide

theorem test_meets_EveryStepKeepsTheBounds :
    FifoBounded bay ∧ OverflowHasRecord bay ∧ PeersDistinct bay ∧ CounterBounded bay ∧ EstimateBounded bay := by
  unfold FifoBounded OverflowHasRecord PeersDistinct CounterBounded EstimateBounded
  decide

theorem test_meets_OutputsDriven : OutputsDriven { bay with outs := drive bay } := rfl

/-- NoFillBeginsWithoutACertificate: a FILL that passes its checks begins a fill in one step. -/
theorem test_meets_NoFillBeginsWithoutACertificate :
    let s := { openBay [{ soiled 1 with state := .clean, certificate := some certificate }] with pending := [.fill 1] }
    s.fill.ctx = none ∧ ((nextOf (step s)).bind (·.fill.ctx)).isSome = true := by decide

/-! ## Commands that name no event are ill-formed -/

/-- Eight bytes of data, for the frames below. -/
def eight : List Nat := [0, 0, 0, 0, 0, 0, 0, 0]

/-- A compartment's line is one of 1 to 8 (section 11.1). -/
theorem test_wf_compartment :
    ((Instr.headSeatedDrop 0).wf || (Instr.headSeatedDrop 9).wf || (Instr.highLevelProbeWet 0).wf
      || (Instr.highLevelProbeWet 9).wf || (Instr.fillArmDrop 0).wf || (Instr.fillArmDrop 9).wf
      || (Instr.drainWindowEnd 0).wf || (Instr.drainWindowEnd 9).wf) = false
    ∧ ((Instr.headSeatedDrop 1).wf && (Instr.highLevelProbeWet 8).wf && (Instr.fillArmDrop 8).wf
      && (Instr.drainWindowEnd 1).wf) = true := by decide

/-- No baseline is formed for temperature (R113); peer nodes are 1 to 15 (R157). -/
theorem test_wf_channel_and_node :
    ((Instr.baselineFormed .temperature).wf || (Instr.peerSilenceExpiry 0).wf || (Instr.peerSilenceExpiry 16).wf)
      = false
    ∧ ((Instr.baselineFormed .turbidity).wf && (Instr.peerSilenceExpiry 1).wf && (Instr.peerSilenceExpiry 15).wf)
      = true := by decide

/-- A frame of another row's kind is ill-formed (R171). -/
theorem test_wf_frame_kind :
    ((Instr.supply (frame 1 0 eight)).wf || (Instr.demand (frame 0 3 eight)).wf
      || (Instr.jobRelease (frame 3 6 [])).wf || (Instr.jobPostHeader (frame 4 6 eight)).wf
      || (Instr.jobPostCompartment (frame 3 6 eight)).wf || (Instr.reportRecall (frame 2 6 [])).wf
      || (Instr.bayStatus (frame 13 3 [])).wf || (Instr.bayRestarted (frame 12 3 [])).wf) = false := by decide

/-- A frame has at most 8 data bytes (chapter 10). -/
theorem test_wf_frame_length :
    ((Instr.supply (frame 0 0 (0 :: eight))).wf || (Instr.demand (frame 1 3 (0 :: eight))).wf
      || (Instr.jobRelease (frame 2 6 (0 :: eight))).wf || (Instr.jobPostHeader (frame 3 6 (0 :: eight))).wf
      || (Instr.jobPostCompartment (frame 4 6 (0 :: eight))).wf || (Instr.reportRecall (frame 5 6 (0 :: eight))).wf
      || (Instr.bayStatus (frame 12 3 (0 :: eight))).wf || (Instr.bayRestarted (frame 13 3 (0 :: eight))).wf) = false
    ∧ (Instr.supply (frame 0 0 eight)).wf = true := by decide

/-- The parameters of an image that are of interest to the tests: section 1.8's yard, `n` classes. -/
def rawImage (classes recipes map : Nat) : RawImage where
  yard := ⟨some .proportional, 6000, 85, 60, 40, 10, 300⟩
  classes := List.replicate classes ⟨true, some .food, 300, 520⟩
  recipes := List.replicate recipes ⟨false, [], 0, 0, 0, ⟨0, 0, 0, 0⟩, ⟨0, 0, 0, 0⟩⟩
  map := List.replicate map 0

/-- A start-up that reads an image. -/
def startUp (m : ConfigMemory) : StartUpRead := ⟨m, 6, Lines.reset, 0, 0, 0, 0⟩

/-- A decoded image has 15 classes, 31 recipes and 225 map entries (R4, R6, R13). -/
theorem test_wf_image :
    ((Instr.endOfStartUp (startUp (.whole [] 0 (rawImage 14 31 225)))).wf
      || (Instr.endOfStartUp (startUp (.whole [] 0 (rawImage 15 30 225)))).wf
      || (Instr.endOfStartUp (startUp (.whole [] 0 (rawImage 15 31 224)))).wf) = false
    ∧ (Instr.endOfStartUp (startUp (.whole [] 0 (rawImage 15 31 225)))).wf = true := by decide +kernel

/-- No row of the table gives bits. -/
theorem test_no_word_spells_a_command : decodeTableWord 8 0 = none ∧ decodeTableWord 16 0xFFFF = none := by decide

/-! ## The manual's worked figures -/

/-- The CRC-16 of R2 over the nine characters 1 to 9; 0x29B1 is (PRESUMED) the published check value of this polynomial and
preset. -/
theorem test_crc16_check_value :
    crc16 [0x31, 0x32, 0x33, 0x34, 0x35, 0x36, 0x37, 0x38, 0x39] = 0x29B1#16 := by decide +kernel

/-- Sections 1.2 and 1.8: 6,000 L with marks of 10, 40, 60 and 85 percent. -/
theorem test_marks_in_litres : checkYard (rawImage 15 31 225).yard = some yard := rfl

/-- A raw stage of section 1.8. -/
def rawStage (kind : StageKind) (temp vol flow limit dose : Nat) (i : Inspection) (rep win : Nat) : RawStage :=
  ⟨some kind, temp, vol, flow, limit, dose, some i, rep, win⟩

/-- Recipe 12 of section 1.8 with another FINAL_RINSE inspection and other stages after it. -/
def recipe12 (i : Inspection) (after : List RawStage) : RawRecipe where
  enabled := true
  stages := [rawStage .preRinse 0 400 250 180 0 .both 1 120, rawStage .wash 70 600 200 300 8 .none 1 150,
             rawStage .rinse 60 500 250 240 0 .cond 1 120, rawStage .finalRinse 60 400 250 240 0 i 6 120] ++ after
  tolerance := 1
  holdLimit := 600
  starveLimit := 240
  c := ⟨1024, 250, 800, 50⟩
  t := ⟨512, 5, 40, 30⟩

/-- Section 1.8: recipe 12 passes; a FINAL_RINSE that inspects nothing, or a RINSE after it, fails R10. -/
theorem test_recipe_checks :
    (checkRecipe (recipe12 .both [rawStage .dry 0 0 0 300 0 .none 1 0])).isSome = true
    ∧ disabledFrom 12 [recipe12 .both [], recipe12 .none [],
        recipe12 .both [rawStage .rinse 60 500 250 240 0 .cond 1 120]] = [13, 14] := by decide

/-- ImageIsUsedOnlyWhenItPasses and ImageEntriesByTheirChecks: an image in use, a yard that fails, a recipe used. -/
theorem test_meets_ImageStatements :
    checkYard (rawImage 15 31 225).yard = some yard
    ∧ checkYard { (rawImage 15 31 225).yard with stopMark := 40 } = none
    ∧ (checkRecipe (recipe12 .both [])).isSome = true ∧ bay.reader.tables.isSome = true
    ∧ (recipe12 .both []).stages[0]? = some (rawStage .preRinse 0 400 250 180 0 .both 1 120) := by decide

/-- Section 2.3: the clamps floor(4,500 × 98 / 100) and floor(8,000 × 98 / 100), job number 1 after 255. -/
theorem test_acceptance_figures :
    (makeCompartment bay 2 ⟨4500, 4, 9, false, 4500⟩).fillTarget = 4410
    ∧ (makeCompartment bay 3 ⟨8000, 4, 7, false, 7900⟩).fillTarget = 7840
    ∧ (makeCompartment bay 3 ⟨8000, 4, 7, false, 7900⟩).recipe = some 12
    ∧ nextJobNumber 41 = 42 ∧ nextJobNumber 255 = 1 := by decide

/-- Section 6.1: the readings and gains of the soiled window, and R = 1,311 at gain 4. -/
theorem test_readings_and_gain :
    readingOf .conductivity 4 1311 = 1600 ∧ nextGain 4 1311 = 8
    ∧ (readingOf .conductivity 8 4095, nextGain 8 4095) = (2499, 4)
    ∧ (readingOf .conductivity 4 4095, nextGain 4 4095) = (4998, 2)
    ∧ (readingOf .conductivity 2 4095, nextGain 2 4095) = (9997, 1)
    ∧ (readingOf .conductivity 1 4095, nextGain 1 4095) = (19995, 1)
    ∧ (readingOf .conductivity 1 3400, nextGain 1 3400) = (16601, 1)
    ∧ (readingOf .conductivity 1 1500, nextGain 1 1500) = (7324, 2)
    ∧ (readingOf .conductivity 2 2950, nextGain 2 2950) = (7202, 2)
    ∧ readingOf .turbidity 1 4095 = 3999 ∧ readingOf .temperature 1 4095 = 120 := by decide

/-- Section 6.2: eight readings of sum 3,309 give the baseline 413. -/
theorem test_flush_baseline :
    baselineOf ([410, 412, 415, 418, 413, 411, 416, 414].foldl addFlush ⟨0, 0⟩) none = some 413 := by decide

/-- Section 6.5: the mass of the RINSE window, the limits of 8,000 L, the verdicts DIRTY and CLEAR. -/
theorem test_masses_and_verdicts :
    residueMass 1024 16800 = 4200 ∧ residueMass 512 762 = 95 ∧ residueLimit 50 8000 = 400 ∧ residueLimit 30 8000 = 240
    ∧ channelVerdict recipe.c 8000 1000 ⟨16800, 1600, false⟩ = .dirty
    ∧ channelVerdict recipe.c 8000 800 ⟨720, 12, false⟩ = .clear
    ∧ channelVerdict recipe.t 8000 800 ⟨762, 5, false⟩ = .clear := by decide

/-- Sections 4.11 and 7.1: the forecasts 1, 3, NEVER for no dilution, slow dilution and a previous mass of 0. -/
theorem test_forecasts :
    forecastOf 260 5200 180 = .runs 1 ∧ forecastOf 45000 300000 400 = .runs 3 ∧ forecastOf 610 520 400 = .never
    ∧ forecastOf 990 1000 300 = .never ∧ forecastOf 520 0 400 = .never := by decide

/-- Sections 7.3 and 7.4: the signatures 1,024, 115, 409, 1,177 and 332. -/
theorem test_signatures :
    signatureValue 340 85 = 1024 ∧ signatureValue 180 400 = 115 ∧ signatureValue 400 250 = 409
    ∧ signatureValue 1380 300 = 1177 ∧ signatureValue 520 400 = 332 := by decide

/-- Section 8.6: the context of a fill of 7,200 L, the TRIM close point 35,980, the estimate 23. -/
theorem test_fill_figures :
    let x := fillCtxFor 20 { soiled 1 with fillTarget := 7200 }
    (x.full, x.trim, x.tolerance, x.close) = (36000, 720, 180, 35280) ∧ x.phase = .fullFlow
    ∧ (closeIfReached 20 { x with count := 35280 }).close = 35980
    ∧ learnedEstimate 20 { x with learn := true, runOn := 32 } = 23 := by decide

/-- Section 8.7: the continued fill of compartment 5 goes straight to TRIM with close point 477. -/
theorem test_fill_continued :
    let x := fillCtxFor 23 { soiled 5 with metered := 26500 }
    (x.phase = .trim ∧ x.remaining = 500 ∧ x.close = 477)
    ∧ learnedEstimate 23 { x with learn := true, runOn := 21 } = 22 := by decide

/-- The peer table of section 9.5. -/
def division : List Peer :=
  [⟨3, ⟨480, 0, 2, true, 600⟩, 9⟩, ⟨5, ⟨400, 0, 2, false, 300⟩, 9⟩, ⟨7, ⟨300, 0, 1, false, 900⟩, 9⟩,
   ⟨9, ⟨200, 0, 1, false, 120⟩, 9⟩]

/-- Section 9.5: one division in both modes. -/
theorem test_division_in_both_modes :
    allot .ordered 1000 Demand.hot division.reverse = [(3, 480), (5, 400), (7, 120), (9, 0)]
    ∧ allot .proportional 1000 Demand.hot division.reverse = [(3, 480), (5, 231), (7, 173), (9, 115)] := by decide

/-- Section 9.6: at 2,410 L of 6,000 (a loop of 10.4266… mA) the pump-out goes RUNNING; it runs on at the stop mark of
600 L and stops below it. -/
theorem test_sump_figures :
    levelOf 6000 10426667 = 2410 ∧ pumpOutAfter yard 2410 false = true ∧ pumpOutAfter yard 2400 false = false
    ∧ pumpOutAfter yard 600 true = true ∧ pumpOutAfter yard 599 true = false := by decide

/-- R183: 1,600 L/min drive 10 V, 500 L/min 3.12 V (3.125 rounded down to 10 mV). -/
theorem test_setpoint_voltages : millivolts 1600 1600 = 10000 ∧ millivolts 1600 500 = 3120 := by decide

/-! ## Single steps -/

/-- Section 3.7: a KEYED compartment offered with the key off is skipped, without lighting REFUSED. -/
theorem test_start_skips_keyed :
    let t := nextOf (exec (.start 5) (openBay [soiled 1, soiled 2, { soiled 3 with keyed := true }]))
    t.map (fun u => (u.pass.batch.map (·.index), u.panel.lastRefusal, u.panel.refused, u.pass.window))
      = some ([1], .keyedSkipped, none, some 30000) := by decide

/-- R101, R103: the twelfth quiet interval ends an ABANDONED drain-down and restores the members. -/
theorem test_drain_down_restores :
    (nextOf (exec .drainDownQuiet (drainingDown .abandoned))).map
      (fun u => (u.pass.phase, u.job.table.map (·.state))) = some (.none, [.soiled, .soiled]) := by decide

/-- R176, R162: a DEMAND's send completion makes the own peer entry. -/
theorem test_demand_completion :
    let s := { bay with line := { bay.line with tx := some (frameOf (.demand ⟨400, 0, 1, false, 173⟩) 0 bay) } }
    (nextOf (exec .transmitComplete s)).map (fun u => (u.share.peers.map (fun p => (p.node, p.demand.hot)), u.share.announced.hot))
      = some ([(6, 400)], 400) := by decide

/-- R178: a second fault after BUS_OFF sets the overflow flag; the FAULT lamp flashes (section 10.6). -/
theorem test_bus_off_then_stale :
    let s := { bay with faults := ⟨some (faultRecOf .busOff none none bay), false⟩ }
    (nextOf (exec .supplyStale s)).map (fun u => (u.faults.overflow, u.outs.faultLamp, u.share.hotShare))
      = some (true, .flashing, 0) := by decide

/-- R70: an agent pulse in the SPRAY of a stage that is not a WASH joins the spray record. -/
theorem test_agent_pulse_in_a_rinse :
    (nextOf (exec .agentPulse (passBay (pass .spray 2)))).map (fun u => u.pass.spray.map (·.agent)) = some (some 1) := by
  decide

/-- R182: at a SPRAY's end the raw pump-stopped line goes on (log 5), the debounced one 20 ms later. -/
theorem test_pump_line_is_debounced :
    (nextOf (exec .sprayVolumeReached (pumping (spraying 10 0)))).map
      (fun u => (u.pass.phase, u.panel.raw.pumpStopped, u.panel.level.pumpStopped)) = some (.drain, true, false) := by
  decide

/-- R92: TEMP_LOW after STAGE_TIME has aborted the pass at the same instant is recorded only. -/
theorem test_second_limit_is_recorded_only :
    let s := { passBay { pass .spray 2 with tolerance := 0 } with line := YardLine.reset }
    (((nextOf (exec .stageTime s)).bind (fun u => nextOf (exec .tempLow u)))).map
      (fun u => (u.pass.abortCode, u.faults.record.map (·.kind), u.faults.overflow))
        = some (some .stageTime, some .stageTime, true) := by decide

/-- R90, R92: a member's probe wet in the ms in which its head has dropped is recorded only, its code stands. -/
theorem test_second_line_is_recorded_only :
    ((nextOf (exec (.headSeatedDrop 1) (passBay (pass .spray 2)))).bind
      (fun u => nextOf (exec (.highLevelProbeWet 1) u))).map
        (fun u => (u.pass.members.map (·.retiring), u.faults.overflow))
      = some ([some .headUnseated, none], true) := by decide

/-- R131: an abort at the event of a window's end finds the member retired there still retiring, its compartment
WASHING. -/
theorem test_abort_finds_the_member_retiring :
    (nextOf (exec .hold justLeft)).map (fun u => u.pass.members.map (·.index)) = some [2]
    ∧ (nextOf (exec (.abandon 0) justLeft)).map (fun u => (u.pass.phase, u.pass.members.map (·.retiring),
        u.pass.departed, u.job.table.map (·.state)))
      = some (.drainDown, [some .residuePersists, none], [], [.washing, .washing]) := by decide

/-- R92: a member without water that leaves at its head's drop is found retiring by the SENSOR_ABSENT of the same
event: it is in the pass again, its compartment WASHING. -/
theorem test_sensor_fault_finds_the_member_retiring :
    let p := unwetted { pass .flush 2 with tolerance := 0 }
    ((nextOf (exec (.headSeatedDrop 1) (passBay p))).bind
      (fun u => nextOf (exec (.channelAbsent .turbidity) u))).map
        (fun u => (u.pass.abortCode, u.pass.members.map (fun m => (m.index, m.retiring)), u.pass.departed,
          u.job.table.map (·.state)))
      = some (some .sensorAbsent, [(1, some .headUnseated), (2, none)], [], [.washing, .washing]) := by decide

/-- R92, R97: the heads of a FLUSH entry, taken first, let every member go; SENSOR_ABSENT of the same entry finds them
retiring. -/
theorem test_flush_entry_finds_heads_and_channel :
    let s := passBay (unwetted { pass .flush 2 with tolerance := 0 })
    let u := { s with diu := { s.diu with t := { s.diu.t with present := false } }
                      panel := { s.panel with level := { s.panel.level with head := 0 } } }
    (headCheck u).pass.members = []
    ∧ (settleRetired (sensorEntry (headCheck u))).pass.members.map (·.retiring)
      = [some .headUnseated, some .headUnseated]
    ∧ (settleRetired (sensorEntry (headCheck u))).pass.abortCode = some .sensorAbsent := by decide

/-- R92, R97: STAGE_TIME of the event at which a head's drop has turned the SPRAY to DRAIN aborts the pass, which finds
its member retiring. -/
theorem test_time_limit_finds_the_member_retiring :
    let s := passBay { pass .spray 1 with
      tolerance := 0, members := [member 1]
      recipeData := some { recipe with stages := [{ stage .rinse 60 0 .both with timeLimit := 0 }] } }
    let u := watchMember .headUnseated 1 s
    (u.pass.phase = .drain ∧ duePass u.pass = [.command .stageTime])
    ∧ ((reachTimeLimit u).pass.phase = .drainDown ∧ (reachTimeLimit u).pass.abortCode = some .stageTime
      ∧ (reachTimeLimit u).pass.members.map (·.retiring) = [some .headUnseated]
      ∧ duePass (reachTimeLimit u).pass = []) := by decide

/-- R100: an abort in a run-down, which changes no field of BAY_STATUS, refreshes it. -/
theorem test_abort_in_a_run_down_refreshes :
    (nextOf (exec (.abandon 0) (running .held))).map (fun u => (u.pass.phase, u.pass.dest, u.line.statusTimer))
      = some (.runDown, some .drainDown, some 10000) := by decide

/-- R8: the parameters of a channel that no stage of the recipe inspects never reach the DIU. -/
theorem test_parameters_of_a_channel_not_inspected :
    let p := { pass .drain 1 with recipeData := some { recipe with stages := [stage .rinse 0 0 .cond] } }
    (windowFor 1 (passBay p)).paramsC = some recipe.c ∧ (windowFor 1 (passBay p)).paramsT = none := by decide

/-- R41, R182: a switch turned 19 ms before a press that the clock makes is not in its selection, and its bounce runs
on. -/
theorem test_switch_turned_before_a_press :
    let s := openBay [soiled 1, soiled 2]
    let u := { s with panel := { s.panel with
      level := { s.panel.level with select := 1 }, raw := { s.panel.raw with select := 3, buttons := 1 }
      bounce := [⟨.select 2, 19⟩] } }
    (nextOf (lineEvent (.button 0) u)).map
        (fun v => (v.pass.batch.map (·.index), v.panel.raw.select, v.panel.bounce))
      = some ([1], 3, [⟨.select 2, 19⟩]) := by decide

/-- R173: the bytes of a DEMAND as sent: 400 L/min, 300 L/min, priority 1 with the steady flag, age 173 s. -/
theorem test_demand_bytes : demandBytes ⟨400, 300, 1, true, 173⟩ = [1, 144, 1, 44, 5, 0, 173, 0] := by decide

end Sys2Proof.Tests
end

section
/-! SUPPORT. What a refusal shows once its event has ended (R41, R175, R184), said once for every command that refuses:
`refuse_concluded`. -/

namespace Sys2Proof.Machine

/-! ## A BAY_STATUS refresh asked for is placed (R175) -/

@[simp] theorem formDemand_statusDue (s0 s : State) : (formDemand s0 s).line.statusDue = s.line.statusDue := by
  unfold formDemand
  dsimp only
  split
  · split
    · unfold placeDemand
      split <;> rfl
    · rfl
  · rfl

theorem refreshStatus_of_due (s0 s : State) (h : s.line.statusDue = true) : refreshStatus s0 s = placeStatus s := by
  unfold refreshStatus
  rw [if_pos (Or.inl h)]

@[simp] theorem placeStatus_statusTimer (s : State) :
    (placeStatus s).line.statusTimer = some Config.statusRefresh := rfl

@[simp] theorem chooseFrame_statusTimer (s : State) : (chooseFrame s).line.statusTimer = s.line.statusTimer := by
  unfold chooseFrame
  repeat' split
  all_goals rfl

@[simp] theorem fillTx_statusTimer (s : State) : (fillTx s).line.statusTimer = s.line.statusTimer := by
  unfold fillTx
  split
  · exact chooseFrame_statusTimer s
  · rfl

/-- Sending lets a refresh timer just restarted stand: it restarts it or leaves it alone (R174). -/
theorem sendNext_statusTimer (s : State) (h : s.line.statusTimer = some Config.statusRefresh) :
    (sendNext s).line.statusTimer = some Config.statusRefresh := by
  unfold sendNext
  dsimp only
  split
  · rw [fillTx_statusTimer, h]
  · rfl

@[simp] theorem driveOutputs_line (s : State) : (driveOutputs s).line = s.line := rfl

/-- A refresh asked for restarts the refresh timer by the end of the event (R175). -/
theorem conclude_statusTimer_of_due (s0 s : State) (hin : starveInputs s = starveInputs s0)
    (hdue : s.line.statusDue = true) : (conclude s0 s).line.statusTimer = some Config.statusRefresh := by
  have hform : (formDemand s0 s).line.statusDue = true := by simp [hdue]
  unfold conclude
  rw [lookConditions_same s0 s hin, driveOutputs_line, refreshStatus_of_due s0 _ hform]
  exact sendNext_statusTimer _ (placeStatus_statusTimer _)

/-! ## The REFUSED lamp (R41, R184) -/

/-- In a module in operation, in service or not, the lamp is lit while its timer runs (R15). -/
theorem drive_refusedLamp_lit (s : State) (hrun : s.power = .running) (h : s.panel.refused.isSome = true) :
    (drive s).refusedLamp = .lit := by
  unfold drive
  rw [if_pos hrun]
  split
  · simp [driveInService, h]
  · simp [lampsOnly, h]

/-! ## A refusal, to the end of its event (R41) -/

/-- A refusal after the panel has taken `p` from the field, such as the switches of a press. -/
theorem refuse_concluded (r : Reason) (p : Panel) (s : State) (hrun : s.power = .running) :
    Refuses r s (conclude s (refuse r (s.setPanel p))) := by
  have hin : starveInputs (refuse r (s.setPanel p)) = starveInputs s := rfl
  obtain ⟨hmodule, hjob, hpass, hdiu, hfill, hfaults, hpanel, hshare, hline⟩ := conclude_same s _ hin
  have hpower : (conclude s (refuse r (s.setPanel p))).power = .running := hmodule.1.trans hrun
  have hlamp : (conclude s (refuse r (s.setPanel p))).panel.refused = some Config.refusedLamp := by
    rw [hpanel]
    rfl
  refine ⟨hlamp, ?_, ?_, conclude_statusTimer_of_due s _ hin rfl, hmodule, hjob, hpass, ⟨hdiu, hfill, hfaults⟩,
    hshare, hline⟩
  · rw [hpanel]
    rfl
  · rw [conclude_outs]
    exact drive_refusedLamp_lit _ hpower (by simp [hlamp])

end Sys2Proof.Machine
end

section
/-! SUPPORT. What START's own operations change and leave unchanged (R43, R44): the cancelling of a batch, the opening
of one, the offer of a compartment to it. -/

namespace Sys2Proof.Machine

/-- What every step of a fold leaves alone, the fold leaves alone. -/
theorem foldl_keeps {α β γ : Type} (g : β → γ) (f : β → α → β) (hf : ∀ b a, g (f b a) = g b) (l : List α) (b : β) :
    g (l.foldl f b) = g b :=
  (List.foldl_hom g (g₂ := fun c _ => c) (fun b a => (hf b a).symm)).symm.trans (List.foldl_fixed l)

/-! ## A batch cancelled (R54) -/

@[simp] theorem queueEvent_panel (n : Notice) (s : State) : (queueEvent n s).panel = s.panel := by
  unfold queueEvent
  split <;> rfl

@[simp] theorem queueEvent_job (n : Notice) (s : State) : (queueEvent n s).job = s.job := by
  unfold queueEvent
  split <;> rfl

@[simp] theorem closeCheck_panel (s : State) : (closeCheck s).panel = s.panel := by
  unfold closeCheck
  dsimp only
  repeat' split
  all_goals simp

@[simp] theorem closeCheck_passCounter (s : State) : (closeCheck s).job.passCounter = s.job.passCounter := by
  unfold closeCheck
  dsimp only
  repeat' split
  all_goals simp

theorem requestReturnChecked_panel (b : BatchMember) (s : State) : (requestReturnChecked b s).panel = s.panel :=
  closeCheck_panel _

theorem requestReturnChecked_passCounter (b : BatchMember) (s : State) :
    (requestReturnChecked b s).job.passCounter = s.job.passCounter := closeCheck_passCounter _

@[simp] theorem cancelBatch_pass (s : State) : (cancelBatch s).pass = Pass.idle := rfl

/-- No refusal is shown. -/
@[simp] theorem cancelBatch_panel (s : State) : (cancelBatch s).panel = s.panel :=
  foldl_keeps (·.panel) _ (fun t b => requestReturnChecked_panel b t) s.pass.batch _

/-- No pass number is spent. -/
@[simp] theorem cancelBatch_passCounter (s : State) : (cancelBatch s).job.passCounter = s.job.passCounter :=
  foldl_keeps (·.job.passCounter) _ (fun t b => requestReturnChecked_passCounter b t) s.pass.batch _

/-! ## Compartments offered to a batch (R44, R45) -/

/-- What an offer to a batch leaves alone, whatever its outcome: the phase and its append window, the pass counter,
the job state. -/
def gatheringOf (s : State) : Phase × Option Nat × Nat × JobState :=
  (s.pass.phase, s.pass.window, s.job.passCounter, s.job.state)

/-- The offer's three outcomes: the compartment joins, is skipped, or is refused (R45). -/
@[simp] theorem offer_gatheringOf (i : Nat) (s : State) : gatheringOf (offer i s) = gatheringOf s := by
  unfold offer
  repeat' split
  all_goals rfl

/-- The window is that of the entry, however many compartments are offered after it (R44). -/
theorem offers_enterGathering (sel : List Nat) (s : State) :
    gatheringOf (sel.foldl (fun s i => offer i s) (enterGathering s))
      = (.gathering, some Config.appendWindow, s.job.passCounter, s.job.state) :=
  foldl_keeps gatheringOf _ (fun t i => offer_gatheringOf i t) sel (enterGathering s)

/-! ## START -/

@[simp] theorem takeSwitches_job (switches : Lines8) (s : State) : (takeSwitches switches s).job = s.job := rfl
@[simp] theorem takeSwitches_refused (switches : Lines8) (s : State) :
    (takeSwitches switches s).panel.refused = s.panel.refused := rfl
@[simp] theorem takeSwitches_lastRefusal (switches : Lines8) (s : State) :
    (takeSwitches switches s).panel.lastRefusal = s.panel.lastRefusal := rfl

/-! The outcome of each check, none of the earlier ones applying (R43). -/

section
variable {s : State} (sel : List Nat)

theorem takeStart_noJob (notOpen : s.job.state ≠ .opened) : takeStart sel s = refuse .noJob s := if_pos notOpen

theorem takeStart_cancels (opened : s.job.state = .opened) (gathering : s.pass.phase = .gathering) :
    takeStart sel s = cancelBatch s := by simp [takeStart, opened, gathering]

theorem takeStart_passActive (opened : s.job.state = .opened) (notGathering : s.pass.phase ≠ .gathering)
    (active : s.pass.phase ≠ .none) : takeStart sel s = refuse .passActive s := by
  simp [takeStart, opened, notGathering, active]

theorem takeStart_passLimit (opened : s.job.state = .opened) (inNone : s.pass.phase = .none)
    (spent : 255 ≤ s.job.passCounter) : takeStart sel s = refuse .passLimit s := by
  simp [takeStart, opened, inNone, spent]

theorem takeStart_noneSelected (opened : s.job.state = .opened) (inNone : s.pass.phase = .none)
    (left : ¬ 255 ≤ s.job.passCounter) (empty : sel = []) : takeStart sel s = refuse .noneSelected s := by
  simp [takeStart, opened, inNone, left, empty]

theorem takeStart_batchFull (opened : s.job.state = .opened) (inNone : s.pass.phase = .none)
    (left : ¬ 255 ≤ s.job.passCounter) (chosen : sel ≠ []) (tooMany : 4 < sel.length) :
    takeStart sel s = refuse .batchFull s := by
  simp [takeStart, opened, inNone, left, chosen, tooMany]

theorem takeStart_opens (opened : s.job.state = .opened) (inNone : s.pass.phase = .none)
    (left : ¬ 255 ≤ s.job.passCounter) (chosen : sel ≠ []) (fits : ¬ 4 < sel.length) :
    takeStart sel s = sel.foldl (fun s i => offer i s) (enterGathering s) := by
  simp [takeStart, opened, inNone, left, chosen, fits]

end

theorem exec_start (switches : Lines8) (s : State) : exec (.start switches) s = execStart switches s := rfl

/-- A press of START in a module in operation: its selection is that of the press. -/
theorem exec_start_running (switches : Lines8) (s : State) (h : s.power = .running) :
    exec (.start switches) s = .next (conclude s (takeStart (selection switches s) (takeSwitches switches s))) := by
  rw [exec_start, execStart, event_running _ s h]

/-- A press refused, the panel having taken its switches (R41). -/
theorem refuse_takeSwitches_concluded (r : Reason) (switches : Lines8) (s : State) (h : s.power = .running) :
    Refuses r s (conclude s (refuse r (takeSwitches switches s))) := refuse_concluded r _ s h

/-- Check 2: the end of the event leaves the engine in NONE (R54). -/
theorem cancelBatch_concluded (s0 s : State) :
    (conclude s0 (cancelBatch s)).pass = Pass.idle
    ∧ (conclude s0 (cancelBatch s)).panel = s.panel
    ∧ (conclude s0 (cancelBatch s)).job.passCounter = s.job.passCounter := by
  have hend : Concluded (cancelBatch s) (conclude s0 (cancelBatch s)) :=
    conclude_phase s0 _ (by simp [Pass.idle]) (by simp [Pass.idle])
  rw [hend.pass, hend.panel, hend.job]
  exact ⟨cancelBatch_pass s, cancelBatch_panel s, cancelBatch_passCounter s⟩

/-- Check 7: a batch gathers at the end of the event, its window that of the entry (R44). -/
theorem offers_concluded (s0 s : State) (sel : List Nat) :
    gatheringOf (conclude s0 (sel.foldl (fun s i => offer i s) (enterGathering s)))
      = (.gathering, some Config.appendWindow, s.job.passCounter, s.job.state) := by
  have hview := offers_enterGathering sel s
  have hphase : (sel.foldl (fun s i => offer i s) (enterGathering s)).pass.phase = .gathering :=
    congrArg Prod.fst hview
  have hend := conclude_phase s0 _ (by rw [hphase]; decide) (by rw [hphase]; decide)
  rw [← hview, gatheringOf, hend.pass, hend.job]
  rfl

end Sys2Proof.Machine
end

section
open Sys2Proof Sys2Proof.Machine

/-- Settles O11: START's checks in the order of R43. Each refusing check ends as `refuse_concluded` says, check 2 as the
batch cancelled, check 7 as the batch opened. -/
theorem startChecksInOrder : Obligations.StartChecksInOrder := by
  unfold Obligations.StartChecksInOrder
  intro switches s hrun
  have hrefuse := fun r => refuse_takeSwitches_concluded r switches s hrun
  refine ⟨_, exec_start_running switches s hrun, ?_⟩
  split
  case isTrue notOpen =>
    rw [takeStart_noJob (s := takeSwitches switches s) _ notOpen]
    exact hrefuse .noJob
  case isFalse notNotOpen =>
  have opened : (takeSwitches switches s).job.state = .opened := not_ne_iff.mp notNotOpen
  split
  case isTrue gathering =>
    rw [takeStart_cancels _ opened gathering]
    obtain ⟨hpass, hpanel, hcounter⟩ := cancelBatch_concluded s (takeSwitches switches s)
    simp [hpass, hpanel, hcounter]
  case isFalse notGathering =>
  split
  case isTrue active =>
    rw [takeStart_passActive _ opened notGathering active]
    exact hrefuse .passActive
  case isFalse notActive =>
  have inNone : (takeSwitches switches s).pass.phase = .none := not_ne_iff.mp notActive
  split
  case isTrue spent =>
    rw [takeStart_passLimit _ opened inNone spent]
    exact hrefuse .passLimit
  case isFalse left =>
  split
  case isTrue empty =>
    rw [takeStart_noneSelected _ opened inNone left empty]
    exact hrefuse .noneSelected
  case isFalse chosen =>
  split
  case isTrue tooMany =>
    rw [takeStart_batchFull _ opened inNone left chosen tooMany]
    exact hrefuse .batchFull
  case isFalse fits =>
    rw [takeStart_opens _ opened inNone left chosen fits]
    have hview := offers_concluded s (takeSwitches switches s) (selection switches s)
    simpa [gatheringOf, Config.appendWindow] using hview

end

section
/-! SUPPORT. The residue mass (R119), the limit (R120), and one equation of the channel verdict per row of R121's
table. -/

namespace Sys2Proof.Machine

theorem residueMass_eq (k acc : Nat) : residueMass k acc = min 4294967295 (acc * k / 4096) := rfl

theorem residueLimit_eq (limit volume : Nat) : residueLimit limit volume = limit * volume / 1000 := rfl

section
variable {p : ChannelParams} {volume drained : Nat} {x : ChannelWin}

/-- First row: the window drained no pulses. -/
theorem channelVerdict_of_noneDrained (noneDrained : drained = 0) : channelVerdict p volume drained x = .noData :=
  if_pos noneDrained

/-- Second row: saturated, or the peak above the dirty level. -/
theorem channelVerdict_of_soiled (hasDrained : drained ≠ 0) (soiled : x.sat = true ∨ p.dirty < x.peak) :
    channelVerdict p volume drained x = .dirty := by
  rw [channelVerdict, if_neg hasDrained, if_pos soiled]

/-- Third row: neither the peak above the clear level nor the mass above the limit. -/
theorem channelVerdict_of_within (hasDrained : drained ≠ 0) (notSoiled : ¬ (x.sat = true ∨ p.dirty < x.peak))
    (within : x.peak ≤ p.clear ∧ residueMass p.k x.acc ≤ residueLimit p.limit volume) :
    channelVerdict p volume drained x = .clear := by
  rw [channelVerdict, if_neg hasDrained, if_neg notSoiled, if_pos within]

/-- Last row: the peak above the clear level, or the mass above the limit. -/
theorem channelVerdict_of_exceeds (hasDrained : drained ≠ 0) (notSoiled : ¬ (x.sat = true ∨ p.dirty < x.peak))
    (exceeds : p.clear < x.peak ∨ residueLimit p.limit volume < residueMass p.k x.acc) :
    channelVerdict p volume drained x = .marginal := by
  have notWithin : ¬ (x.peak ≤ p.clear ∧ residueMass p.k x.acc ≤ residueLimit p.limit volume) := by omega
  rw [channelVerdict, if_neg hasDrained, if_neg notSoiled, if_neg notWithin]

end

end Sys2Proof.Machine
end

section
open Sys2Proof Sys2Proof.Machine

/-- Settles O39: the rows of R121 exclude one another and leave no window out, so each row's verdict is given in that
row alone. -/
theorem channelVerdictByItsTable : Obligations.ChannelVerdictByItsTable := by
  unfold Obligations.ChannelVerdictByItsTable
  intro p volume drained x
  dsimp only
  rw [← residueMass_eq, ← residueLimit_eq]
  by_cases noneDrained : drained = 0
  case pos =>
    rw [channelVerdict_of_noneDrained noneDrained]
    simp [noneDrained]
  case neg =>
  by_cases soiled : x.sat = true ∨ p.dirty < x.peak
  case pos =>
    rw [channelVerdict_of_soiled noneDrained soiled]
    simp [noneDrained, soiled]
  case neg =>
  by_cases within : x.peak ≤ p.clear ∧ residueMass p.k x.acc ≤ residueLimit p.limit volume
  case pos =>
    rw [channelVerdict_of_within noneDrained soiled within]
    simp [noneDrained, soiled, within]
  case neg =>
    have exceeds : p.clear < x.peak ∨ residueLimit p.limit volume < residueMass p.k x.acc := by omega
    rw [channelVerdict_of_exceeds noneDrained soiled exceeds]
    simp only [reduceCtorEq, ne_eq, noneDrained, soiled, within, exceeds, not_false_eq_true, and_self, and_false]

end

section
/-! SUPPORT. The forecast's loop (R129): one step of the dilution, the loop's two equations, and the one induction that
says what it can answer, `forecastLoop_cases`. -/

namespace Sys2Proof.Machine

/-- One further run at the dilution ratio `q`, in 65,536ths (R129). -/
def dilute (q x : Nat) : Nat := x * q / 65536

/-- The mass reaches the limit after `n` runs and not before (R129). -/
def FirstWithin (q limit x n : Nat) : Prop :=
  (dilute q)^[n] x ≤ limit ∧ ∀ k, k < n → limit < (dilute q)^[k] x

section
variable {q limit x : Nat}

/-- The mass within the limit: the loop stops, whatever steps are left. -/
theorem forecastLoop_of_within (within : x ≤ limit) (fuel n : Nat) : forecastLoop q limit fuel x n = .runs n := by
  cases fuel <;> exact if_pos within

/-- The mass above the limit and no step left. -/
theorem forecastLoop_zero_of_above (above : limit < x) (n : Nat) : forecastLoop q limit 0 x n = .never :=
  if_neg above.not_ge

/-- The mass above the limit and a step left: the loop takes it and counts it. -/
theorem forecastLoop_succ_of_above (above : limit < x) (fuel n : Nat) :
    forecastLoop q limit (fuel + 1) x n = forecastLoop q limit fuel (dilute q x) (n + 1) :=
  if_neg above.not_ge

theorem firstWithin_zero (within : x ≤ limit) : FirstWithin q limit x 0 :=
  ⟨within, fun _ hk => absurd hk (Nat.not_lt_zero _)⟩

/-- A mass above the limit reaches it one run later than the mass after its first run does. -/
theorem FirstWithin.succ (above : limit < x) {n : Nat} (h : FirstWithin q limit (dilute q x) n) :
    FirstWithin q limit x (n + 1) := by
  obtain ⟨within, before⟩ := h
  refine ⟨within, fun k hk => ?_⟩
  cases k with
  | zero => exact above
  | succ k => exact before k (Nat.lt_of_succ_lt_succ hk)

theorem FirstWithin.pos (above : limit < x) {n : Nat} (h : FirstWithin q limit x n) : 1 ≤ n := by
  cases n with
  | zero => exact absurd h.1 above.not_ge
  | succ n => exact Nat.le_add_left 1 n

/-- A mass reaches the limit first at no other count. -/
theorem FirstWithin.unique {m n : Nat} (hm : FirstWithin q limit x m) (hn : FirstWithin q limit x n) : m = n := by
  obtain ⟨withinM, beforeM⟩ := hm
  obtain ⟨withinN, beforeN⟩ := hn
  obtain hlt | heq | hgt := Nat.lt_trichotomy m n
  · exact absurd withinM (beforeN m hlt).not_ge
  · exact heq
  · exact absurd withinN (beforeM n hgt).not_ge

end

/-- What the loop can answer: the count at which the mass first reaches the limit, added to the count it began with, or
NEVER when no step it has left brings the mass there. -/
theorem forecastLoop_cases (q limit fuel x n : Nat) :
    (∃ k, k ≤ fuel ∧ FirstWithin q limit x k ∧ forecastLoop q limit fuel x n = .runs (n + k))
    ∨ ((∀ k, k ≤ fuel → limit < (dilute q)^[k] x) ∧ forecastLoop q limit fuel x n = .never) := by
  induction fuel generalizing x n with
  | zero =>
    obtain within | above := le_or_gt x limit
    · exact .inl ⟨0, le_rfl, firstWithin_zero within, forecastLoop_of_within within 0 n⟩
    · refine .inr ⟨fun k hk => ?_, forecastLoop_zero_of_above above n⟩
      rwa [Nat.le_zero.mp hk]
  | succ fuel ih =>
    obtain within | above := le_or_gt x limit
    · exact .inl ⟨0, Nat.zero_le _, firstWithin_zero within, forecastLoop_of_within within _ n⟩
    rw [forecastLoop_succ_of_above above]
    obtain ⟨k, hk, first, answer⟩ | ⟨beyond, answer⟩ := ih (dilute q x) (n + 1)
    · exact .inl ⟨k + 1, Nat.succ_le_succ hk, first.succ above, by rw [answer, Nat.add_assoc, Nat.add_comm 1]⟩
    · refine .inr ⟨fun k hk => ?_, answer⟩
      cases k with
      | zero => exact above
      | succ k => exact beyond k (Nat.le_of_succ_le_succ hk)

section
variable {last prev : Nat} (limit : Nat)

/-- No previous mass, or no dilution shown (R129, items 1 and 2). -/
theorem forecastOf_of_noDilution (h : prev = 0 ∨ 65536 ≤ last * 65536 / prev) :
    forecastOf last prev limit = .never := by
  unfold forecastOf
  split
  · rfl
  · exact if_pos (h.resolve_left ‹_›)

/-- A dilution ratio below 65,536: the loop from the last mass, 16 steps at most (R129, item 3). -/
theorem forecastOf_of_dilution (hprev : prev ≠ 0) (falling : last * 65536 / prev < 65536) :
    forecastOf last prev limit = forecastLoop (last * 65536 / prev) limit 16 last 0 := by
  rw [forecastOf, if_neg hprev, if_neg falling.not_ge]

end

end Sys2Proof.Machine
end

section
open Sys2Proof Sys2Proof.Machine

/-- Settles O40: of the loop's two answers (`forecastLoop_cases`) a count is the one least count, and is at least 1 as
the last mass is above the limit; NEVER is the answer when no count exists. -/
theorem forecastIsTheLeastCountOfRuns : Obligations.ForecastIsTheLeastCountOfRuns := by
  unfold Obligations.ForecastIsTheLeastCountOfRuns
  intro last prev limit above q step
  refine ⟨forecastOf_of_noDilution limit, fun hprev falling => ?_⟩
  rw [forecastOf_of_dilution limit hprev falling]
  obtain ⟨m, hm, first, answer⟩ | ⟨beyond, answer⟩ := forecastLoop_cases q limit 16 last 0
  case inl =>
    rw [answer, Nat.zero_add]
    refine ⟨fun n => ⟨fun h => ?_, fun ⟨_, _, least⟩ => ?_⟩, nofun, fun h => ?_⟩
    · obtain rfl := Forecast.runs.inj h
      exact ⟨first.pos above, hm, first⟩
    · exact congrArg Forecast.runs (first.unique least)
    · exact absurd first.1 (h m hm).not_ge
  case inr =>
    rw [answer]
    refine ⟨fun n => ⟨nofun, fun ⟨_, hn, within, _⟩ => ?_⟩, fun _ => beyond, fun _ => rfl⟩
    exact absurd within (beyond n hn).not_ge

end

section
/-! SUPPORT. How a notice joins the FIFO (R174), and what the two checks that can end a job do together, said once:
`releaseCheck_closeCheck_endsJob`. -/

namespace Sys2Proof.Machine

/-! ## Notices that join the FIFO (R174) -/

/-- A notice changes the yard line interface alone, and joins the FIFO as far as there is room. -/
theorem queueEvent_joins (n : Notice) (s : State) (room : FifoBounded s) :
    ∃ l, queueEvent n s = s.setLine l ∧ l.fifo = joined [n] s := by
  unfold queueEvent
  split
  case isTrue free =>
    refine ⟨_, rfl, ?_⟩
    rw [joined, List.take_of_length_le (by simp; omega)]
  case isFalse noRoom =>
    have full : s.line.fifo.length = Config.fifoSize := Nat.le_antisymm room (not_lt.mp noRoom)
    refine ⟨_, rfl, ?_⟩
    rw [joined, ← full, List.take_left]

theorem joined_bounded (ns : List Notice) (s : State) : (joined ns s).length ≤ Config.fifoSize :=
  List.length_take_le _ _

/-- A FIFO that no notice joins stands. -/
theorem joined_nil {s : State} (room : FifoBounded s) : joined [] s = s.line.fifo := by
  rw [joined, List.append_nil, List.take_of_length_le room]

/-- Notices that join behind others: all of them have joined in their order. -/
theorem joined_append {ms : List Notice} {s t : State} (h : t.line.fifo = joined ms s) (ns : List Notice) :
    joined ns t = joined (ms ++ ns) s := by
  have missing : Config.fifoSize - min Config.fifoSize (s.line.fifo ++ ms).length
      = Config.fifoSize - (s.line.fifo ++ ms).length := by omega
  rw [joined, h, joined, joined, ← List.append_assoc, List.take_append, List.take_take, Nat.min_self,
    List.length_take, missing, ← List.take_append]

/-! ## The end of a job (R32, R38) -/

/-- The job is OPEN with every compartment terminal (R32). -/
abbrev JobComplete (s : State) : Prop := s.job.state = .opened ∧ s.job.table.all terminal = true

/-- The job is RELEASING and waits for the pass engine no more (R38). -/
abbrev EngineReleased (s : State) : Prop := s.job.state = .releasing ∧ s.pass.phase = .none

/-- The job closes, `l` being the yard line interface that the COMPLETE report leads to. -/
theorem closeCheck_of_complete {s : State} {l : YardLine} (complete : JobComplete s)
    (hl : queueEvent (.jobReport (jobNumber s) .complete) s = s.setLine l) :
    closeCheck s = ((s.setLine l).setJob { s.job with state := .closed }).setPass
      (if s.pass.phase = .gathering then Pass.idle else s.pass) := by
  rw [closeCheck, if_pos complete, hl]
  by_cases gathering : s.pass.phase = .gathering
  · exact (if_pos gathering).trans (by rw [if_pos gathering]; rfl)
  · exact (if_neg gathering).trans (by rw [if_neg gathering]; rfl)

theorem closeCheck_of_incomplete {s : State} (incomplete : ¬ JobComplete s) : closeCheck s = s := if_neg incomplete

theorem releaseCheck_of_released {s : State} (released : EngineReleased s) (idle : s.fill.ctx = none) :
    releaseCheck s = finishRelease s := by
  obtain ⟨releasing, inNone⟩ := released
  exact if_pos ⟨releasing, inNone, idle⟩

theorem releaseCheck_of_waiting {s : State} (waiting : ¬ EngineReleased s) : releaseCheck s = s :=
  if_neg fun ⟨releasing, inNone, _⟩ => waiting ⟨releasing, inNone⟩

/-- `t` is `s` after the close check and the check of a waiting release: the job ended when it could be, its report
queued, a batch still gathering ended with it, and nothing else changed (R32, R38, R58). -/
structure EndsJob (s t : State) : Prop where
  rest : t = { s with job := t.job, pass := t.pass, line := t.line }
  job : t.job = { s.job with
    state := if JobComplete s then .closed else if EngineReleased s then .noJob else s.job.state
    clock := if EngineReleased s then 0 else s.job.clock
    clockSub := if EngineReleased s then 0 else s.job.clockSub }
  pass : t.pass = if JobComplete s ∧ s.pass.phase = .gathering then Pass.idle else s.pass
  fifo : t.line.fifo = joined (
    if JobComplete s then [.jobReport (jobNumber s) .complete]
    else if EngineReleased s then [.jobReport (jobNumber s) .released] else []) s

/-- With the fill unit IDLE: an OPEN job closes, or a RELEASING one is released, or the state is as it was. -/
theorem releaseCheck_closeCheck_endsJob {s : State} (idle : s.fill.ctx = none) (room : FifoBounded s) :
    EndsJob s (releaseCheck (closeCheck s)) := by
  by_cases complete : JobComplete s
  case pos =>
    have notReleased : ¬ EngineReleased s := by simp [EngineReleased, complete.1]
    obtain ⟨l, hl, hfifo⟩ := queueEvent_joins (.jobReport (jobNumber s) .complete) s room
    rw [closeCheck_of_complete complete hl, releaseCheck_of_waiting (by simp [EngineReleased])]
    exact ⟨rfl, by simp [complete, notReleased], by simp only [setPass_pass, and_iff_right complete],
      by rwa [if_pos complete]⟩
  case neg =>
  rw [closeCheck_of_incomplete complete]
  by_cases released : EngineReleased s
  case pos =>
    obtain ⟨l, hl, hfifo⟩ := queueEvent_joins (.jobReport (jobNumber s) .released) s room
    rw [releaseCheck_of_released released idle, finishRelease, hl]
    exact ⟨rfl, by simp [complete, released], by simp [complete], by rwa [if_neg complete, if_pos released]⟩
  case neg =>
    rw [releaseCheck_of_waiting released]
    exact ⟨rfl, by simp [complete, released], by simp [complete],
      by rw [if_neg complete, if_neg released, joined_nil room]⟩

end Sys2Proof.Machine
end

section
/-! SUPPORT. The fill unit (R139 to R153): who sets the learn mark, and what the end of RUN_ON leaves. -/

namespace Sys2Proof.Machine

/-! ## The learn mark (R143, R146, R147) -/

/-- TRIM at its close point: RUN_ON with cause TARGET, the learn mark set. -/
theorem closeIfReached_of_trim {x : FillCtx} (estimate : Nat) (trim : x.phase = .trim) (reached : x.close ≤ x.count) :
    closeIfReached estimate x = enterRunOn .target true x := by
  rw [closeIfReached, trim]
  exact if_pos reached

/-- The learn mark stands in FULL_FLOW, and in every phase below the close point. -/
theorem closeIfReached_learn {x : FillCtx} (estimate : Nat) (h : x.phase = .fullFlow ∨ x.count < x.close) :
    (closeIfReached estimate x).learn = x.learn := by
  unfold closeIfReached
  split
  case h_1 => split <;> rfl
  case h_2 trim =>
    have below : x.count < x.close := h.resolve_left (by simp [trim])
    rw [if_neg below.not_ge]
  case h_3 => rfl

/-- A stop with a valve open: RUN_ON, the learn mark clear. -/
theorem stopFill_of_valveOpen {s : State} {x : FillCtx} (cause : FillCause) (hctx : s.fill.ctx = some x)
    (valve : x.phase ≠ .runOn) : stopFill cause s = setFillCtx (some (enterRunOn cause false x)) s := by
  rw [stopFill, hctx]
  cases hphase : x.phase with
  | fullFlow => simp [hphase]
  | trim => simp [hphase]
  | runOn => exact absurd hphase valve

/-- A fill begins with the learn mark clear, whatever its first phase. -/
theorem fillCtxFor_learn (estimate : Nat) (c : Compartment) : (fillCtxFor estimate c).learn = false := by
  unfold fillCtxFor firstPhase
  repeat' split
  all_goals rfl

/-! ## The end of RUN_ON (R147, R148, R153) -/

/-- The FILL lamp is out in IDLE, and in a bay that drives no lamp of it (R15, R184). -/
theorem drive_fillLamp_out {s : State} (idle : s.fill.ctx = none) : (drive s).fillLamp = .out := by
  unfold drive
  split
  · split
    · simp [driveInService, idle]
    · rfl
  · rfl

/-- The record of the fill `x`, its target as the job unit holds it (R153). -/
def endedRecord (x : FillCtx) (s : State) : FillRecord :=
  fillRecordOf (((compartment? s x.compartment).map (·.fillTarget)).getD 0) x

/-- `s` with the fill `x` handed over: the unit IDLE with its estimate learned, the compartment's record in the job's
table (R31, R148). -/
def storeFill (x : FillCtx) (s : State) : State :=
  updCompartment x.compartment (fun c => { c with
      state := fillResult x
      metered := satAdd Config.max32 c.metered x.count
      fillRecord := some (endedRecord x s) })
    (s.setFill { ctx := none, estimate := learnedEstimate s.fill.estimate x })

/-- The end of RUN_ON in its order: the fill handed over, FILL_RECORD, the two checks that can end the job. -/
theorem endRunOn_eq {s : State} {x : FillCtx} (hctx : s.fill.ctx = some x) (runOn : x.phase = .runOn) :
    endRunOn s = releaseCheck (closeCheck
      (queueEvent (.fillRecord (jobTag s) (jobNumber s) (endedRecord x s)) (storeFill x s))) := by
  rw [endRunOn, hctx]
  exact if_pos runOn

/-- After the end of RUN_ON: the fill handed over, and from there, FILL_RECORD having joined, the job ended where it
can be. -/
theorem endRunOn_endsJob {s : State} {x : FillCtx} (hctx : s.fill.ctx = some x) (runOn : x.phase = .runOn)
    (room : FifoBounded s) :
    ∃ l, l.fifo = joined [.fillRecord (jobTag s) (jobNumber s) (endedRecord x s)] s
      ∧ EndsJob ((storeFill x s).setLine l) (endRunOn s) := by
  obtain ⟨l, hl, hfifo⟩ :=
    queueEvent_joins (.fillRecord (jobTag s) (jobNumber s) (endedRecord x s)) (storeFill x s) room
  have roomLeft : FifoBounded ((storeFill x s).setLine l) := by
    rw [FifoBounded, setLine_line, hfifo]
    exact joined_bounded _ _
  refine ⟨l, hfifo, ?_⟩
  rw [endRunOn_eq hctx runOn, hl]
  exact releaseCheck_closeCheck_endsJob rfl roomLeft

/-- An event that has left the share unit alone, and the pass but for its end, ends as `Concluded` says. -/
theorem conclude_passEnded {s t : State} (share : t.share = s.share) (pass : t.pass = s.pass ∨ t.pass = Pass.idle) :
    Concluded t (conclude s t) := by
  obtain same | idle := pass
  · exact conclude_same s t (by simp [starveInputs, same, share])
  · exact conclude_phase s t (by simp [idle, Pass.idle]) (by simp [idle, Pass.idle])

theorem exec_runOnEnd_running (s : State) (h : s.power = .running) :
    exec .runOnEnd s = .next (conclude s (endRunOn s)) := event_running endRunOn s h

end Sys2Proof.Machine
end

section
open Sys2Proof Sys2Proof.Machine

/-- Settles O29: the state that RUN_ON's end leaves is the one `endRunOn_endsJob` describes, read block by block at the
end of its event; the learn mark is set by TRIM at its close point alone. -/
theorem runOnEndsTheFill : Obligations.RunOnEndsTheFill := by
  unfold Obligations.RunOnEndsTheFill
  refine ⟨fun s x hrun hctx runOn room => ?_, fun e x trim reached => ?_, fun e x => closeIfReached_learn e,
    fun cause s x hctx valve => ?_, fillCtxFor_learn⟩
  · obtain ⟨l, hfifo, rest, job, pass, fifo⟩ := endRunOn_endsJob hctx runOn room
    have share : (endRunOn s).share = s.share := by rw [rest]; rfl
    have passEnded : (endRunOn s).pass = s.pass ∨ (endRunOn s).pass = Pass.idle := by
      rw [pass]
      exact (ite_eq_or_eq _ _ _).symm
    have last := conclude_passEnded share passEnded
    have fill : (conclude s (endRunOn s)).fill = { ctx := none, estimate := learnedEstimate s.fill.estimate x } := by
      rw [last.fill, rest]
      rfl
    refine ⟨_, exec_runOnEnd_running s hrun, fill, ?lamp, last.job.trans job, ?fifo, last.pass.trans pass, ?diu,
      ?faults, ?panel, ?share, ?module⟩
    case lamp =>
      rw [conclude_outs]
      exact drive_fillLamp_out (by rw [fill])
    case fifo =>
      have behind := joined_append (t := (storeFill x s).setLine l) hfifo
      exact last.line.1.trans (fifo.trans (behind _))
    case diu => rw [last.diu, rest]; rfl
    case faults => rw [last.faults, rest]; rfl
    case panel => rw [last.panel, rest]; rfl
    case share => simpa [SameShare, share] using last.share
    case module =>
      have same : SameModule s (endRunOn s) := by rw [rest]; exact ⟨rfl, rfl, rfl, rfl⟩
      obtain ⟨power, reader, free, pending⟩ := same
      obtain ⟨power', reader', free', pending'⟩ := last.module
      exact ⟨power'.trans power, reader'.trans reader, free'.trans free, pending'.trans pending⟩
  · rw [closeIfReached_of_trim e trim reached]
    exact ⟨rfl, rfl⟩
  · rw [stopFill_of_valveOpen cause hctx valve]
    rfl

end

section
/-! SUPPORT. The order of the peer table and the allotments of a utility (R163 to R165): the order is the one of a rank,
ORDERED allotment in closed form, and `allot_within`, from which the bounds of both modes follow. -/

namespace Sys2Proof.Machine

/-! ## The order of the entries (R163) -/

/-- The keys of R163 in their order, so that the earlier entry has the lesser rank: of the first three keys the greater
value comes first. -/
def Peer.rank (p : Peer) : Boolᵒᵈ ×ₗ Natᵒᵈ ×ₗ Natᵒᵈ ×ₗ Nat :=
  toLex (.toDual p.demand.steady, toLex (.toDual p.demand.priority, toLex (.toDual p.demand.age, p.node)))

theorem Peer.before_iff_rank_lt (a b : Peer) : a.before b = true ↔ a.rank < b.rank := by
  have steadyFirst : ∀ x y : Bool, y < x ↔ x ≠ y ∧ x = true := by decide
  simp only [Peer.before, Peer.rank, Prod.Lex.toLex_lt_toLex, OrderDual.toDual_lt_toDual, OrderDual.toDual_inj,
    steadyFirst]
  split
  next steady => simp [steady]
  next steady =>
    obtain steady := not_not.mp steady
    split
    next priority => simp [steady, priority]
    next priority =>
      obtain priority := not_not.mp priority
      split
      next age => simp [steady, priority, age]
      next age => simp [steady, priority, not_not.mp age]

theorem Peer.rank_inj_node {a b : Peer} (h : a.rank = b.rank) : a.node = b.node := by
  simp only [Peer.rank, toLex_inj, Prod.mk.injEq] at h
  obtain ⟨-, -, -, node⟩ := h
  exact node

theorem Peer.before_trans {a b c : Peer} (hab : a.before b = true) (hbc : b.before c = true) : a.before c = true := by
  rw [before_iff_rank_lt] at *
  exact hab.trans hbc

/-- The node decides at last, so of two nodes' entries one comes before the other. -/
theorem Peer.before_of_not_before {a b : Peer} (node : a.node ≠ b.node) (h : ¬ a.before b = true) :
    b.before a = true := by
  rw [before_iff_rank_lt] at *
  exact lt_of_le_of_ne (not_lt.mp h) fun e => node (rank_inj_node e).symm

theorem insertPeer_eq_orderedInsert (x : Peer) (l : List Peer) :
    insertPeer x l = l.orderedInsert (fun a b => a.before b = true) x := by
  induction l with
  | nil => rfl
  | cons y ys ih => rw [insertPeer, List.orderedInsert_cons, ih]

theorem insertPeer_perm (x : Peer) (l : List Peer) : (insertPeer x l).Perm (x :: l) := by
  rw [insertPeer_eq_orderedInsert]
  exact List.perm_orderedInsert _ x l

theorem insertPeer_pairwise {x : Peer} {l : List Peer} (node : ∀ y ∈ l, x.node ≠ y.node)
    (h : l.Pairwise (fun a b => a.before b = true)) : (insertPeer x l).Pairwise (fun a b => a.before b = true) := by
  induction l with
  | nil => exact List.pairwise_singleton _ x
  | cons y ys ih =>
    obtain ⟨yFirst, rest⟩ := List.pairwise_cons.mp h
    obtain ⟨nodeY, nodeYs⟩ := List.forall_mem_cons.mp node
    rw [insertPeer]
    split
    next xFirst =>
      exact h.cons (List.forall_mem_cons.mpr ⟨xFirst, fun z hz => Peer.before_trans xFirst (yFirst z hz)⟩)
    next notFirst =>
      have yBefore : ∀ z ∈ x :: ys, y.before z = true :=
        List.forall_mem_cons.mpr ⟨Peer.before_of_not_before nodeY notFirst, yFirst⟩
      exact (ih nodeYs rest).cons fun z hz => yBefore z ((insertPeer_perm x ys).subset hz)

theorem sortPeers_perm (l : List Peer) : (sortPeers l).Perm l := by
  induction l with
  | nil => exact .refl []
  | cons x xs ih => exact (insertPeer_perm x (sortPeers xs)).trans (ih.cons x)

/-- The order of R163 is complete on a table that holds no node twice. -/
theorem sortPeers_pairwise {l : List Peer} (nodup : (l.map (·.node)).Nodup) :
    (sortPeers l).Pairwise (fun a b => a.before b = true) := by
  induction l with
  | nil => exact .nil
  | cons x xs ih =>
    obtain ⟨newNode, rest⟩ := List.nodup_cons.mp nodup
    exact insertPeer_pairwise
      (fun y hy e => newNode (List.mem_map.mpr ⟨y, (sortPeers_perm xs).subset hy, e.symm⟩)) (ih rest)

/-! ## ORDERED allotment (R164) -/

theorem sumSnd_eq (l : List (Nat × Nat)) : sumSnd l = (l.map (·.2)).sum := by
  rw [sumSnd, List.sum_eq_foldl, List.foldl_map]

theorem allotOrdered_nodes (rest : Nat) (l : List (Nat × Nat)) : (allotOrdered rest l).map (·.1) = l.map (·.1) := by
  induction l generalizing rest with
  | nil => rfl
  | cons e l ih => simp [allotOrdered, ih]

theorem allotOrdered_sum (rest : Nat) (l : List (Nat × Nat)) :
    ((allotOrdered rest l).map (·.2)).sum = min rest ((l.map (·.2)).sum) := by
  induction l generalizing rest with
  | nil => simp [allotOrdered]
  | cons e l ih =>
    simp only [allotOrdered, List.map_cons, List.sum_cons, ih]
    omega

theorem allotOrdered_getElem? {rest k n d : Nat} {l : List (Nat × Nat)} (h : l[k]? = some (n, d)) :
    (allotOrdered rest l)[k]? =
      some (n, min d (rest - (((allotOrdered rest l).take k).map (·.2)).sum)) := by
  induction l generalizing rest k with
  | nil => simp at h
  | cons e l ih =>
    cases k with
    | zero =>
      obtain rfl : e = (n, d) := by simpa using h
      simp [allotOrdered]
    | succ k =>
      simp only [allotOrdered, List.getElem?_cons_succ, List.take_succ_cons, List.map_cons, List.sum_cons,
        ← Nat.sub_sub]
      exact ih h

/-! ## Allotments within their entries (R163) -/

/-- The allotments answer the entries one by one, each under its entry's node and within its demand. -/
def AllottedWithin (allotments entries : List (Nat × Nat)) : Prop :=
  List.Forall₂ (fun a e => a.1 = e.1 ∧ a.2 ≤ e.2) allotments entries

theorem AllottedWithin.nodes {a e : List (Nat × Nat)} (h : AllottedWithin a e) : a.map (·.1) = e.map (·.1) := by
  induction h with
  | nil => rfl
  | cons head _ ih => rw [List.map_cons, List.map_cons, head.1, ih]

theorem allotmentOf_cons (node : Nat) (a : Nat × Nat) (l : List (Nat × Nat)) :
    allotmentOf node (a :: l) = if a.1 = node then a.2 else allotmentOf node l := by
  rw [allotmentOf, List.find?_cons]
  split
  next same => rw [if_pos (beq_iff_eq.mp same)]; rfl
  next other => rw [if_neg (beq_eq_false_iff_ne.mp other)]; rfl

theorem AllottedWithin.allotmentOf_le {a e : List (Nat × Nat)} (h : AllottedWithin a e) (node : Nat) :
    allotmentOf node a ≤ allotmentOf node e := by
  induction h with
  | nil => exact le_refl _
  | cons head _ ih =>
    rw [allotmentOf_cons, allotmentOf_cons, head.1]
    split
    · exact head.2
    · exact ih

theorem allotmentOf_le_sum (node : Nat) (l : List (Nat × Nat)) : allotmentOf node l ≤ (l.map (·.2)).sum := by
  induction l with
  | nil => exact le_refl _
  | cons a l ih =>
    rw [allotmentOf_cons, List.map_cons, List.sum_cons]
    split <;> omega

/-- Where no node stands twice, a node's allotment is the one listed under it. -/
theorem allotmentOf_of_mem {node x : Nat} {l : List (Nat × Nat)} (nodup : (l.map (·.1)).Nodup) (h : (node, x) ∈ l) :
    allotmentOf node l = x := by
  induction l with
  | nil => simp at h
  | cons a l ih =>
    obtain ⟨first, rest⟩ := List.nodup_cons.mp nodup
    rw [allotmentOf_cons]
    rcases List.mem_cons.mp h with rfl | later
    · rw [if_pos rfl]
    · have otherNode : a.1 ≠ node := fun e => first (List.mem_map.mpr ⟨_, later, e.symm⟩)
      rw [if_neg otherNode, ih rest later]

theorem allotOrdered_within (rest : Nat) (l : List (Nat × Nat)) : AllottedWithin (allotOrdered rest l) l := by
  induction l generalizing rest with
  | nil => exact .nil
  | cons e l ih => exact .cons ⟨rfl, min_le_left _ _⟩ (ih _)

/-! ## PROPORTIONAL allotment (R165) -/

theorem allotProportional_eq (rest : Nat) (l : List (Nat × Nat)) : allotProportional rest l =
    l.map (fun x => (x.1, if (l.map (·.2)).sum ≤ rest then x.2 else rest * x.2 / (l.map (·.2)).sum)) := by
  rw [allotProportional, sumSnd_eq]
  split
  · exact (List.map_id' l).symm
  · rfl

theorem allotProportional_within (rest : Nat) (l : List (Nat × Nat)) :
    AllottedWithin (allotProportional rest l) l := by
  rw [allotProportional_eq, AllottedWithin, List.forall₂_map_left_iff, List.forall₂_same]
  refine fun x _ => ⟨rfl, ?_⟩
  split
  next => exact le_refl _
  next short =>
    have scaled : rest * x.2 ≤ (l.map (·.2)).sum * x.2 := Nat.mul_le_mul_right _ (by omega)
    exact Nat.div_le_of_le_mul scaled

/-- Floors together are at most the floor of the sum, so the proportions stay within what is shared out. -/
theorem sum_proportions_le (rest total : Nat) (l : List (Nat × Nat)) :
    (l.map (fun x => rest * x.2 / total)).sum ≤ rest * (l.map (·.2)).sum / total := by
  induction l with
  | nil => simp
  | cons e l ih =>
    simp only [List.map_cons, List.sum_cons, Nat.mul_add]
    exact (Nat.add_le_add_left ih _).trans Nat.div_add_div_le_add_div

theorem allotProportional_sum_le (rest : Nat) (l : List (Nat × Nat)) :
    ((allotProportional rest l).map (·.2)).sum ≤ rest := by
  rw [allotProportional_eq, List.map_map]
  by_cases enough : (l.map (·.2)).sum ≤ rest
  · simp [Function.comp_def, enough]
  · simp only [Function.comp_def, enough, if_false]
    exact (sum_proportions_le rest _ l).trans (Nat.div_le_of_le_mul (Nat.mul_comm _ _).le)

/-! ## The division of a utility (R163 to R165) -/

/-- What each entry of the table asks of a utility. -/
def requests (demand : Demand → Nat) (l : List Peer) : List (Nat × Nat) := l.map (fun p => (p.node, demand p.demand))

/-- The entries with the steady flag set, in the order of R163. -/
def steadyPeers (peers : List Peer) : List Peer := (sortPeers peers).filter (fun p => p.demand.steady)

/-- The entries with the steady flag clear, in the order of R163. -/
def otherPeers (peers : List Peer) : List Peer := (sortPeers peers).filter (fun p => !p.demand.steady)

section
variable (capacity : Nat) (demand : Demand → Nat) (peers : List Peer)

theorem requests_nodes : (requests demand peers).map (·.1) = peers.map (·.node) := List.map_map

theorem requests_sum : ((requests demand peers).map (·.2)).sum = (peers.map (fun p => demand p.demand)).sum :=
  congrArg List.sum List.map_map

theorem requests_append (l : List Peer) :
    requests demand (peers ++ l) = requests demand peers ++ requests demand l := List.map_append

theorem allot_ordered :
    allot .ordered capacity demand peers = allotOrdered capacity (requests demand (sortPeers peers)) := rfl

/-- The entries that are not steady share what the steady ones leave, whatever those are allotted one by one. -/
theorem allot_proportional : allot .proportional capacity demand peers =
    allotOrdered capacity (requests demand (steadyPeers peers)) ++
      allotProportional (capacity - ((steadyPeers peers).map (fun p => demand p.demand)).sum)
        (requests demand (otherPeers peers)) := by
  have left : capacity - sumSnd (allotOrdered capacity (requests demand (steadyPeers peers))) =
      capacity - ((steadyPeers peers).map (fun p => demand p.demand)).sum := by
    rw [sumSnd_eq, allotOrdered_sum, requests_sum]
    omega
  rw [← left]
  rfl

theorem steadyPeers_append_perm : (steadyPeers peers ++ otherPeers peers).Perm peers :=
  (List.filter_append_perm (fun p : Peer => p.demand.steady) (sortPeers peers)).trans (sortPeers_perm peers)

/-- In either mode the allotments answer the entries of the table, taken in some arrangement. -/
theorem allot_within (mode : AllocMode) :
    ∃ order : List Peer, order.Perm peers ∧
      AllottedWithin (allot mode capacity demand peers) (requests demand order) := by
  cases mode with
  | ordered => exact ⟨sortPeers peers, sortPeers_perm peers, allotOrdered_within _ _⟩
  | proportional =>
    refine ⟨steadyPeers peers ++ otherPeers peers, steadyPeers_append_perm peers, ?_⟩
    rw [allot_proportional, requests_append]
    exact List.rel_append (allotOrdered_within _ _) (allotProportional_within _ _)

theorem allot_sum_le (mode : AllocMode) : ((allot mode capacity demand peers).map (·.2)).sum ≤ capacity := by
  cases mode with
  | ordered =>
    rw [allot_ordered, allotOrdered_sum]
    exact min_le_left _ _
  | proportional =>
    rw [allot_proportional, List.map_append, List.sum_append, allotOrdered_sum, requests_sum]
    have others := allotProportional_sum_le
      (capacity - ((steadyPeers peers).map (fun p => demand p.demand)).sum) (requests demand (otherPeers peers))
    omega

variable {demand peers}

theorem allotmentOf_requests {p : Peer} (hp : p ∈ peers) (nodup : (peers.map (·.node)).Nodup) :
    allotmentOf p.node (requests demand peers) = demand p.demand :=
  allotmentOf_of_mem ((requests_nodes demand peers).symm ▸ nodup)
    (List.mem_map_of_mem (f := fun q : Peer => (q.node, demand q.demand)) hp)

theorem allot_nodup (mode : AllocMode) (nodup : (peers.map (·.node)).Nodup) :
    ((allot mode capacity demand peers).map (·.1)).Nodup := by
  obtain ⟨order, perm, within⟩ := allot_within capacity demand peers mode
  rw [within.nodes, requests_nodes]
  exact (perm.map _).nodup_iff.mpr nodup

theorem allotmentOf_allot_le (mode : AllocMode) {p : Peer} (hp : p ∈ peers) (nodup : (peers.map (·.node)).Nodup) :
    allotmentOf p.node (allot mode capacity demand peers) ≤ demand p.demand := by
  obtain ⟨order, perm, within⟩ := allot_within capacity demand peers mode
  calc allotmentOf p.node (allot mode capacity demand peers)
    _ ≤ allotmentOf p.node (requests demand order) := within.allotmentOf_le p.node
    _ = demand p.demand := allotmentOf_requests (perm.mem_iff.mpr hp) ((perm.map _).nodup_iff.mpr nodup)

theorem allotmentOf_proportional {p : Peer} (hp : p ∈ peers) (nodup : (peers.map (·.node)).Nodup)
    (notSteady : p.demand.steady = false) :
    let left := capacity - ((steadyPeers peers).map (fun q => demand q.demand)).sum
    let others := ((peers.filter (fun q => !q.demand.steady)).map (fun q => demand q.demand)).sum
    allotmentOf p.node (allot .proportional capacity demand peers) =
      if others ≤ left then demand p.demand else left * demand p.demand / others := by
  intro left others
  have othersSum : ((requests demand (otherPeers peers)).map (·.2)).sum = others := by
    rw [requests_sum]
    exact (((sortPeers_perm peers).filter _).map _).sum_eq
  have listed : (p.node, demand p.demand) ∈ requests demand (otherPeers peers) :=
    List.mem_map_of_mem (f := fun q : Peer => (q.node, demand q.demand))
      (List.mem_filter.mpr ⟨(sortPeers_perm peers).mem_iff.mpr hp, by simp [notSteady]⟩)
  refine allotmentOf_of_mem (allot_nodup capacity .proportional nodup) ?_
  rw [allot_proportional, allotProportional_eq, othersSum]
  exact List.mem_append_right _ (List.mem_map.mpr ⟨_, listed, rfl⟩)

end

/-! ## The own share (R155, R156, R163, R170) -/

theorem capacityUsed_le (x : Share) (capacity : Nat) : capacityUsed x capacity ≤ capacity := by
  unfold capacityUsed
  split
  · exact le_refl _
  · exact Nat.zero_le _

theorem capacityUsed_of_stale {x : Share} (stale : x.stale = none) (capacity : Nat) : capacityUsed x capacity = 0 := by
  simp [capacityUsed, fresh, stale]

theorem capacityUsed_of_shutdown {x : Share} (plant : x.plant = .shutdown) (capacity : Nat) :
    capacityUsed x capacity = 0 := by
  simp [capacityUsed, plant]

theorem ownShare_of_lockout {s : State} (lockout : s.share.lockout = true) (capacity : Nat) (demand : Demand → Nat) :
    ownShare s capacity demand = 0 := if_pos lockout

theorem ownShare_le_capacityUsed (s : State) (capacity : Nat) (demand : Demand → Nat) :
    ownShare s capacity demand ≤ capacityUsed s.share capacity := by
  unfold ownShare
  split
  · exact Nat.zero_le _
  · exact (allotmentOf_le_sum _ _).trans (allot_sum_le _ _ _ _)

theorem ownShare_of_noCapacity {s : State} {capacity : Nat} (noCapacity : capacityUsed s.share capacity = 0)
    (demand : Demand → Nat) : ownShare s capacity demand = 0 :=
  Nat.le_zero.mp (noCapacity ▸ ownShare_le_capacityUsed s capacity demand)

end Sys2Proof.Machine
end

section
open Sys2Proof Sys2Proof.Machine

/-- Settles O55: ORDERED allotment in closed form, the order by the rank of its keys, the bounds of both modes by
`allot_within` and `allot_sum_le`, and the own share within the capacity of the computation. -/
theorem divisionOfAUtility : Obligations.DivisionOfAUtility := by
  unfold Obligations.DivisionOfAUtility
  refine ⟨allot_ordered, fun capacity entries => ⟨?nodes, ?each, ?sum⟩,
    fun peers => ⟨sortPeers_perm peers, sortPeers_pairwise⟩,
    fun mode capacity demand peers => ⟨?within, ?bounded⟩,
    fun capacity demand peers nodup p hp notSteady => allotmentOf_proportional capacity hp nodup notSteady,
    fun s capacity demand => ⟨?zero, ?ownBound⟩⟩
  case nodes => exact allotOrdered_nodes capacity entries
  case each => exact fun k n d => allotOrdered_getElem?
  case sum => exact allotOrdered_sum capacity entries
  case within => exact allot_sum_le capacity demand peers mode
  case bounded => exact fun p hp nodup => allotmentOf_allot_le capacity mode hp nodup
  case zero =>
    rintro (stale | shutdown | lockout)
    · exact ownShare_of_noCapacity (capacityUsed_of_stale stale capacity) demand
    · exact ownShare_of_noCapacity (capacityUsed_of_shutdown shutdown capacity) demand
    · exact ownShare_of_lockout lockout capacity demand
  case ownBound => exact (ownShare_le_capacityUsed s capacity demand).trans (capacityUsed_le s.share capacity)

end

section
/-! SUPPORT. What the outcome of a command can be, said once: `exec_next_cases`; that the outputs are those the state
drives after every command (R63, R140, R183 to R185), which follows from it; and the FAULT lamp as driven (R181). -/

namespace Sys2Proof.Machine

variable {s t : State}

/-! ## The outcome of a command (R185) -/

/-- Every command but those of the reset line and the end of start-up is an event of a module in operation. -/
theorem exec_eq_event (c : Instr) (notHeld : c ≠ .resetLineHeld) (notRelease : c ≠ .resetLineRelease)
    (notStart : ∀ r, c ≠ .endOfStartUp r) : ∃ f, ∀ s, exec c s = event f s := by
  cases c
  case resetLineHeld => exact absurd rfl notHeld
  case resetLineRelease => exact absurd rfl notRelease
  case endOfStartUp r => exact absurd rfl (notStart r)
  all_goals exact ⟨_, fun _ => rfl⟩

theorem event_next_cases {f : State → State} (h : event f s = .next t) :
    (s.power ≠ .running ∧ t = s) ∨ (s.power = .running ∧ t = conclude s (f s)) := by
  obtain rfl := Host.Outcome.next.inj h
  split
  next running => exact .inr ⟨running, rfl⟩
  next notRunning => exact .inl ⟨notRunning, rfl⟩

theorem resetLineHeld_next (h : exec .resetLineHeld s = .next t) : t = loseState s :=
  (Host.Outcome.next.inj h).symm

theorem resetLineRelease_next_cases (h : exec .resetLineRelease s = .next t) :
    (s.power ≠ .held ∧ t = s) ∨ (s.power = .held ∧ t = s.setPower .reading) := by
  obtain rfl := Host.Outcome.next.inj h
  split
  next held => exact .inr ⟨held, rfl⟩
  next notHeld => exact .inl ⟨notHeld, rfl⟩

theorem endOfStartUp_next_cases {r : StartUpRead} (h : exec (.endOfStartUp r) s = .next t) :
    (s.power ≠ .reading ∧ t = s)
    ∨ (s.power = .reading ∧ t = conclude (startedState r s) (joinBus (startedState r s))) := by
  obtain rfl := Host.Outcome.next.inj h
  split
  next reading => exact .inr ⟨reading, rfl⟩
  next notReading => exact .inl ⟨notReading, rfl⟩

/-- Whatever the command: it is not taken, or it takes the module into the held reset line or on to the configuration
read, or its event has come to its end. -/
theorem exec_next_cases {c : Instr} (h : exec c s = .next t) :
    t = s ∨ t = loseState s ∨ (s.power = .held ∧ t = s.setPower .reading) ∨ ∃ s0 u, t = conclude s0 u := by
  by_cases held : c = .resetLineHeld
  case pos =>
    subst held
    exact .inr (.inl (resetLineHeld_next h))
  case neg =>
  by_cases release : c = .resetLineRelease
  case pos =>
    subst release
    obtain ⟨_, same⟩ | reads := resetLineRelease_next_cases h
    · exact .inl same
    · exact .inr (.inr (.inl reads))
  case neg =>
  by_cases start : ∃ r, c = .endOfStartUp r
  case pos =>
    obtain ⟨r, rfl⟩ := start
    obtain ⟨_, same⟩ | ⟨_, ended⟩ := endOfStartUp_next_cases h
    · exact .inl same
    · exact .inr (.inr (.inr ⟨_, _, ended⟩))
  case neg =>
    obtain ⟨f, isEvent⟩ := exec_eq_event c held release (not_exists.mp start)
    obtain ⟨_, same⟩ | ⟨_, ended⟩ := event_next_cases ((isEvent s).symm.trans h)
    · exact .inl same
    · exact .inr (.inr (.inr ⟨_, _, ended⟩))

/-! ## The outputs driven -/

/-- Before the end of start-up every output is at rest (R185). -/
theorem drive_of_not_running (h : s.power ≠ .running) : drive s = Outputs.rest := if_neg h

theorem loseState_power (s : State) : (loseState s).power = .held := rfl

theorem loseState_outputsDriven (s : State) : OutputsDriven (loseState s) :=
  (drive_of_not_running (by simp [loseState_power])).symm

/-- The read begins with the outputs at rest, as the held line left them. -/
theorem setPower_reading_outputsDriven (driven : OutputsDriven s) (held : s.power = .held) :
    OutputsDriven (s.setPower .reading) :=
  calc s.outs
    _ = drive s := driven
    _ = Outputs.rest := drive_of_not_running (by simp [held])
    _ = drive (s.setPower .reading) := (drive_of_not_running (by simp)).symm

/-- Whatever the command, outputs that were driven are driven after it. -/
theorem exec_keeps_outputsDriven {c : Instr} (driven : OutputsDriven s) (h : exec c s = .next t) :
    OutputsDriven t := by
  obtain rfl | rfl | ⟨held, rfl⟩ | ⟨s0, u, rfl⟩ := exec_next_cases h
  · exact driven
  · exact loseState_outputsDriven s
  · exact setPower_reading_outputsDriven driven held
  · exact conclude_outs s0 u

/-! ## The FAULT lamp (R181) -/

section
variable {f : Faults}

theorem faultLampOf_empty (empty : f.record = none) : faultLampOf f = .out := by
  simp [faultLampOf, empty]

theorem faultLampOf_held (held : f.record.isSome = true) (clear : f.overflow = false) : faultLampOf f = .lit := by
  obtain ⟨r, hr⟩ := Option.isSome_iff_exists.mp held
  simp [faultLampOf, hr, clear]

theorem faultLampOf_overflow (held : f.record.isSome = true) (set : f.overflow = true) :
    faultLampOf f = .flashing := by
  obtain ⟨r, hr⟩ := Option.isSome_iff_exists.mp held
  simp [faultLampOf, hr, set]

end

/-- In a module in operation, in service or not, the lamp is driven by the fault record (R15). -/
theorem drive_faultLamp (running : s.power = .running) : (drive s).faultLamp = faultLampOf s.faults := by
  rw [drive, if_pos running]
  split <;> rfl

theorem OutputsDriven.faultLamp (driven : OutputsDriven s) (running : s.power = .running) :
    s.outs.faultLamp = faultLampOf s.faults :=
  (congrArg Outputs.faultLamp driven).trans (drive_faultLamp running)

end Sys2Proof.Machine
end

section
open Sys2Proof Sys2Proof.Machine

/-- Settles O9: the outputs stay driven whatever the command (`exec_keeps_outputsDriven`), and a driven FAULT lamp is a
function of the record; from the reset line held to its release the outputs are at rest. -/
theorem faultLampShowsTheRecord : Obligations.FaultLampShowsTheRecord := by
  unfold Obligations.FaultLampShowsTheRecord
  refine ⟨fun c s t driven hexec _ running => ?event, rfl, fun s t u hheld hrelease => ?resetLine⟩
  case event =>
    rw [(exec_keeps_outputsDriven driven hexec).faultLamp running]
    exact ⟨faultLampOf_empty, faultLampOf_held, faultLampOf_overflow⟩
  case resetLine =>
    obtain rfl := resetLineHeld_next hheld
    obtain ⟨notHeld, _⟩ | ⟨_, rfl⟩ := resetLineRelease_next_cases hrelease
    · exact absurd (loseState_power s) notHeld
    · exact ⟨rfl, rfl⟩

end

section
/-! SUPPORT. What every command keeps, said once: `Held s t`. The bounds that every step keeps (R33, R43, R139, R157,
R174, R179), a first fault held (R179), an idle fill unit; one lemma per effect of a command, from `Work` where the
effect is work of the job unit, the DIU and the pass engine alone. -/

namespace Sys2Proof.Machine

/-! ## The bounds -/

/-- The bounds that every step keeps. -/
structure Bounds (s : State) : Prop where
  fifo : FifoBounded s
  flag : OverflowHasRecord s
  peers : PeersDistinct s
  counter : CounterBounded s
  estimate : EstimateBounded s

/-- From `s` to `t` the bounds hold on, a first fault stands and an idle fill unit stays idle. -/
structure Held (s t : State) : Prop where
  bounds : Bounds s → Bounds t
  fault : ∀ r, s.faults.record = some r → t.faults.record = some r
  idle : s.fill.ctx = none → t.fill.ctx = none

theorem Held.refl (s : State) : Held s s := ⟨id, fun _ h => h, id⟩

theorem Held.trans {s t u : State} (h : Held s t) (k : Held t u) : Held s u :=
  ⟨k.bounds ∘ h.bounds, fun r e => k.fault r (h.fault r e), k.idle ∘ h.idle⟩

theorem Work.held {s t : State} (w : Work s t) : Held s t where
  bounds b := by
    obtain ⟨steady, flag, hshare⟩ := w.share
    refine ⟨w.room b.fifo, w.flag b.flag, ?_, w.counter b.counter, ?_⟩
    · rw [PeersDistinct, hshare]
      exact b.peers
    · rw [EstimateBounded, w.fill]
      exact b.estimate
  fault := w.fault
  idle h := by rw [w.fill, h]

/-! ## Updates that are not `Work` -/

section
variable (s : State)

/-- A share unit with the same peers. -/
theorem setShare_held (v : Share) (peers : v.peers = s.share.peers) : Held s (s.setShare v) where
  bounds b := ⟨b.fifo, b.flag, by rw [PeersDistinct, setShare_share, peers]; exact b.peers, b.counter, b.estimate⟩
  fault _ := id
  idle := id

/-- A yard line interface with the same FIFO. -/
theorem setLine_held (v : YardLine) (fifo : v.fifo.length ≤ s.line.fifo.length) : Held s (s.setLine v) where
  bounds b := ⟨fifo.trans b.fifo, b.flag, b.peers, b.counter, b.estimate⟩
  fault _ := id
  idle := id

/-- A job unit whose pass counter is no higher. -/
theorem setJob_held (v : JobUnit) (counter : v.passCounter ≤ s.job.passCounter) : Held s (s.setJob v) where
  bounds b := ⟨b.fifo, b.flag, b.peers,
    ⟨counter.trans b.counter.1, fun g => counter.trans_lt (b.counter.2 g)⟩, b.estimate⟩
  fault _ := id
  idle := id

theorem setPanel_held (v : Panel) : Held s (s.setPanel v) := (setPanel_step s v).held

theorem setDiu_held (v : Diu) : Held s (s.setDiu v) := (setDiu_step s v).held

/-- A pass context that gathers no batch unless one gathered. -/
theorem setPass_held (v : Pass) (h : v.phase = .gathering → s.pass.phase = .gathering) : Held s (s.setPass v) :=
  (setPass_step s v h).held

theorem setOuts_held (v : Outputs) : Held s (s.setOuts v) := ⟨fun b => ⟨b.1, b.2, b.3, b.4, b.5⟩, fun _ => id, id⟩

/-- A fill context that was there, or is none. -/
theorem setFillCtx_held {x : FillCtx} (y : Option FillCtx) (hctx : s.fill.ctx = some x) : Held s (setFillCtx y s) where
  bounds b := ⟨b.fifo, b.flag, b.peers, b.counter, b.estimate⟩
  fault _ := id
  idle h := by simp [hctx] at h

theorem setFillUnit_held {x : FillCtx} (v : FillUnit) (hctx : s.fill.ctx = some x)
    (estimate : EstimateBounded s → v.estimate ≤ Config.maxEstimate) : Held s (s.setFill v) where
  bounds b := ⟨b.fifo, b.flag, b.peers, b.counter, estimate b.estimate⟩
  fault _ := id
  idle h := by simp [hctx] at h

/-- A fold whose every step holds. -/
theorem foldl_held {α : Type} (f : State → α → State) (hf : ∀ t a, Held t (f t a)) (l : List α) :
    Held s (l.foldl f s) := by
  induction l generalizing s with
  | nil => exact Held.refl s
  | cons a l ih => exact (hf s a).trans (ih (f s a))

end

/-! ## The peer table (R157) -/

theorem dropPeer_pairwise {l : List Peer} (n : Nat) (h : l.Pairwise (fun a b => a.node < b.node)) :
    (dropPeer n l).Pairwise (fun a b => a.node < b.node) := h.filter _

/-- An entry of a node that the table has not takes its place in the order. -/
theorem insertNode_pairwise (x : Peer) {l : List Peer} (h : l.Pairwise (fun a b => a.node < b.node))
    (new : ∀ y ∈ l, y.node ≠ x.node) : (insertNode x l).Pairwise (fun a b => a.node < b.node)
    ∧ ∀ z ∈ insertNode x l, z = x ∨ z ∈ l := by
  induction l with
  | nil => simp [insertNode]
  | cons y ys ih =>
    obtain ⟨below, sorted⟩ := List.pairwise_cons.mp h
    obtain ⟨hy, hys⟩ := List.forall_mem_cons.mp new
    obtain ⟨ihSorted, ihMem⟩ := ih sorted hys
    unfold insertNode
    split
    case isTrue lt =>
      refine ⟨List.pairwise_cons.mpr ⟨fun z hz => ?_, h⟩, fun z hz => by simpa using hz⟩
      obtain rfl | hz := List.mem_cons.mp hz
      · exact lt
      · exact lt.trans (below z hz)
    case isFalse notLt =>
      have gt : y.node < x.node := lt_of_le_of_ne (not_lt.mp notLt) hy
      refine ⟨List.pairwise_cons.mpr ⟨fun z hz => ?_, ihSorted⟩, fun z hz => ?_⟩
      · obtain rfl | hz := ihMem z hz
        · exact gt
        · exact below z hz
      · obtain rfl | hz := List.mem_cons.mp hz
        · simp
        · simpa using (ihMem z hz).imp_right .inr

theorem putPeer_pairwise {l : List Peer} (n : Nat) (d : Demand) (h : l.Pairwise (fun a b => a.node < b.node)) :
    (putPeer n d l).Pairwise (fun a b => a.node < b.node) :=
  (insertNode_pairwise _ (dropPeer_pairwise n h) (fun y hy => by simpa [dropPeer] using (List.mem_filter.mp hy).2)).1

section
variable (s : State)

theorem recompute_held : Held s (recompute s) := setShare_held s _ rfl

theorem withPeers_held (l : List Peer) (h : PeersDistinct s → l.Pairwise (fun a b => a.node < b.node)) :
    Held s (withPeers l s) := by
  refine Held.trans (t := s.setShare { s.share with peers := l }) ⟨fun b => ?_, fun _ => id, id⟩ (recompute_held _)
  exact ⟨b.fifo, b.flag, h b.peers, b.counter, b.estimate⟩

/-! ## The job unit -/

theorem tallySupply_held (n : Nat) : Held s (tallySupply n s) := by
  unfold tallySupply
  split
  · exact setJob_held s _ le_rfl
  · exact Held.refl s

theorem tallyAgent_held (n : Nat) : Held s (tallyAgent n s) := by
  unfold tallyAgent
  split
  · exact setJob_held s _ le_rfl
  · exact Held.refl s

theorem tallyEffluent_held : Held s (tallyEffluent s) := by
  unfold tallyEffluent
  split
  · exact setJob_held s _ le_rfl
  · exact Held.refl s

theorem tallyProduct_held (n : Nat) : Held s (tallyProduct n s) := by
  unfold tallyProduct
  split
  · exact setJob_held s _ le_rfl
  · exact Held.refl s

theorem respond_held (tag : List Byte) (o : JobOutcome) (n : Nat) (detail : List Nat) :
    Held s (respond tag o n detail s) := (respond_work (Work.refl s) tag o n detail).held

theorem beginAssembly_held (h : Header) (b : Bool) : Held s (beginAssembly h b s) := setJob_held s _ le_rfl

theorem dropAssembly_held (a : Assembly) : Held s (dropAssembly a s) := setJob_held s _ le_rfl

theorem takeHeader_held (h : Header) : Held s (takeHeader h s) := by
  unfold takeHeader
  split
  case h_3 | h_4 =>
    split
    · exact beginAssembly_held s _ _
    · exact respond_held s _ _ _ _
  case h_5 =>
    split
    · exact Held.refl s
    · split
      · exact (respond_held s _ _ _ _).trans (beginAssembly_held _ _ _)
      · exact respond_held s _ _ _ _
  all_goals exact respond_held s _ _ _ _

theorem takeJobHeader_held (f : Frame) : Held s (takeJobHeader f s) := by
  unfold takeJobHeader
  split
  · exact takeHeader_held s _
  · exact respond_held s _ _ _ _

theorem acceptJob_held (a : Assembly) (slots : List Slot) : Held s (acceptJob a slots s) :=
  (setJob_held s _ (Nat.zero_le _)).trans (closeCheck_work (respond_work (Work.refl _) _ _ _ _)).held

theorem checkAssembly_held (a : Assembly) (slots : List Slot) : Held s (checkAssembly a slots s) := by
  unfold checkAssembly
  split
  · exact (respond_held s _ _ _ _).trans (dropAssembly_held _ _)
  · exact acceptJob_held s _ _

theorem takeSlot_held (i : Nat) (x : Slot) : Held s (takeSlot i x s) := by
  unfold takeSlot
  split
  · dsimp only
    split
    · split
      · exact checkAssembly_held s _ _
      · exact setJob_held s _ le_rfl
    · exact Held.refl s
  · exact Held.refl s

theorem deadlineExpires_held : Held s (deadlineExpires s) := by
  unfold deadlineExpires
  split
  · exact (respond_held s _ _ _ _).trans (dropAssembly_held _ _)
  · exact Held.refl s

theorem toNoJob_held : Held s (toNoJob s) := setJob_held s _ le_rfl

/-! ## The fill unit -/

theorem stopFill_held (cause : FillCause) : Held s (stopFill cause s) := by
  unfold stopFill
  split
  · exact Held.refl s
  next hctx =>
    split
    · exact setFillCtx_held s _ hctx
    · exact setFillCtx_held s _ hctx
    · exact Held.refl s

theorem raiseFault_held (k : FaultKind) (comp stage : Option Nat) : Held s (raiseFault k comp stage s) :=
  (raiseFault_work (Work.refl s) k comp stage).held

theorem fillProbeWet_held (i : Nat) : Held s (fillProbeWet i s) := by
  unfold fillProbeWet
  split
  · exact (raiseFault_held s _ _ _).trans (stopFill_held _ _)
  · exact Held.refl s

theorem fillArmDropped_held (i : Nat) : Held s (fillArmDropped i s) := by
  unfold fillArmDropped
  split
  · exact stopFill_held s _
  · exact Held.refl s

theorem fillKeyOff_held : Held s (fillKeyOff s) := by
  unfold fillKeyOff
  split
  · exact Held.refl s
  · split
    · exact stopFill_held s _
    · exact Held.refl s

theorem fillStalled_held : Held s (fillStalled s) := by
  unfold fillStalled
  split
  · exact Held.refl s
  · split
    · exact (raiseFault_held s _ _ _).trans (stopFill_held _ _)
    · exact Held.refl s

theorem productPulses_held (n : Nat) : Held s (productPulses n s) := by
  unfold productPulses
  dsimp only
  split
  · exact tallyProduct_held s n
  next hctx => exact (tallyProduct_held s n).trans (setFillCtx_held _ _ hctx)

theorem reachFullFlowClose_held : Held s (reachFullFlowClose s) := by
  unfold reachFullFlowClose
  split
  · exact Held.refl s
  · split
    · exact productPulses_held s _
    · exact Held.refl s

theorem reachTrimClose_held : Held s (reachTrimClose s) := by
  unfold reachTrimClose
  split
  · exact Held.refl s
  · split
    · exact productPulses_held s _
    · exact Held.refl s

theorem learnedEstimate_le {e : Nat} (x : FillCtx) (h : e ≤ Config.maxEstimate) :
    learnedEstimate e x ≤ Config.maxEstimate := by
  unfold learnedEstimate
  split
  · exact min_le_left _ _
  · exact h

theorem endRunOn_held : Held s (endRunOn s) := by
  unfold endRunOn
  split
  · exact Held.refl s
  next x hctx =>
    split
    · have emptied := setFillUnit_held s { ctx := none, estimate := learnedEstimate s.fill.estimate x } hctx
        (learnedEstimate_le x)
      exact emptied.trans (releaseCheck_work (closeCheck_work (queueEvent_work
        (updCompartment_work (Work.refl _) _ _) _))).held
    · exact Held.refl s

/-! ## The share unit -/

theorem takeSupply_held (hot eff : Nat) (p : Plant) : Held s (takeSupply hot eff p s) :=
  (setShare_held s _ (by rfl)).trans (recompute_held _)

theorem goStale_held : Held s (goStale s) := by
  unfold goStale
  split
  · exact ((setShare_held s { s.share with stale := none } rfl).trans (recompute_held _)).trans (raiseFault_held _ _ _ _)
  · exact Held.refl s

theorem raiseFault_share (k : FaultKind) (comp stage : Option Nat) :
    (raiseFault k comp stage s).share = s.share := by
  unfold raiseFault queueEvent
  repeat' split
  all_goals rfl

theorem lockOut_held : Held s (lockOut s) := by
  unfold lockOut
  split
  · exact Held.refl s
  · refine Held.trans ?_ (withPeers_held _ _ (fun h => dropPeer_pairwise _ ?_))
    · exact ((raiseFault_held s .duplicateNode none none).trans (setLine_held _ _ (by exact le_rfl))).trans
        (setShare_held _ _ (by rfl))
    · simpa [PeersDistinct, raiseFault_share] using h

theorem takeDemand_held (n : Nat) (d : Demand) : Held s (takeDemand n d s) := by
  unfold takeDemand
  split
  · exact lockOut_held s
  · split
    · exact Held.refl s
    · exact withPeers_held s _ (putPeer_pairwise n d)

theorem takeRestarted_held (n : Nat) : Held s (takeRestarted n s) := by
  unfold takeRestarted
  split
  · exact lockOut_held s
  · exact withPeers_held s _ (dropPeer_pairwise n)

theorem takeStatus_held (n : Nat) : Held s (takeStatus n s) := by
  unfold takeStatus
  split
  · exact lockOut_held s
  · exact Held.refl s

theorem peerSilent_held (n : Nat) : Held s (peerSilent n s) := by
  unfold peerSilent
  split
  · exact withPeers_held s _ (dropPeer_pairwise n)
  · exact Held.refl s

theorem ifInService_held (f : State → State) (hf : ∀ t, Held t (f t)) : Held s (ifInService f s) := by
  unfold ifInService
  split
  · exact hf s
  · exact Held.refl s

theorem placeDemand_held : Held s (placeDemand s) := by
  unfold placeDemand
  split
  · exact Held.refl s
  · exact (setLine_held s { s.line with demandBox := some s.share.own } le_rfl).trans (setShare_held _ _ rfl)

theorem refreshDemand_held : Held s (refreshDemand s) := by
  unfold refreshDemand
  split
  · exact placeDemand_held s
  · exact Held.refl s

theorem steadyExpires_held : Held s (steadyExpires s) := by
  unfold steadyExpires
  split
  · exact (clearSteady_work (Work.refl s)).held
  · exact Held.refl s

theorem announce_held (d : Demand) : Held s (announce d s) := by
  unfold announce
  split
  · exact Held.refl s
  · exact (setShare_held s { s.share with announced := d } rfl).trans (withPeers_held _ _ (putPeer_pairwise _ d))

theorem stepPumpOut_held : Held s (stepPumpOut s) := by
  unfold stepPumpOut
  split
  · exact Held.refl s
  · split
    · exact setShare_held s _ rfl
    · exact Held.refl s

theorem sumpSample_held (loop : Nat) : Held s (stepPumpOut (sampleSump (takeSumpLoop loop s))) :=
  ((setPanel_held s _).trans (setShare_held _ _ (by rfl))).trans (stepPumpOut_held _)

/-! ## The yard line interface -/

theorem fifoAfter_length (x : Sent) (l : List Notice) : (fifoAfter x l).length ≤ l.length := by
  cases x <;> simp [fifoAfter]

theorem noteSent_held : Held s (noteSent s) := by
  unfold noteSent
  split
  · exact Held.refl s
  · split
    · exact setLine_held s _ le_rfl
    · exact setLine_held s _ (fifoAfter_length _ _)

theorem sendComplete_held : Held s (sendComplete s) := by
  unfold sendComplete
  dsimp only
  split
  · exact Held.refl s
  · have emptied := setLine_held s { s.line with tx := none } le_rfl
    split
    · exact emptied.trans (announce_held _ _)
    all_goals exact emptied.trans (noteSent_held _)

theorem statusExpires_held : Held s (statusExpires s) := by
  unfold statusExpires
  split
  · exact (askStatus_work (Work.refl s)).held
  · exact Held.refl s

theorem goBusOff_held : Held s (goBusOff s) := (setLine_held s _ (by exact le_rfl)).trans (raiseFault_held _ _ _ _)

theorem recoverBus_held : Held s (recoverBus s) := setLine_held s _ le_rfl

end

end Sys2Proof.Machine
end

section
/-! SUPPORT. Every command holds the bounds: the effects of the commands over the pass engine, the end of an event, and
`exec_held` over all commands but the four that name what they change. -/

namespace Sys2Proof.Machine

/-! ## Formation of a pass (R59) -/

/-- The table with every compartment of the batch WASHING, an attempt counted (R29). -/
def washingTable (l : List BatchMember) (table : List Compartment) : List Compartment :=
  l.foldl (fun t b => t.map (fun c => if c.index = b.index then
    { c with state := .washing, attempts := satAdd 255 c.attempts 1 } else c)) table

theorem requestWashings_eq (l : List BatchMember) (s : State) :
    l.foldl (fun s b => requestWashing b.index s) s = s.setJob { s.job with table := washingTable l s.job.table } := by
  induction l generalizing s with
  | nil => rfl
  | cons b l ih => exact ih _

/-- Formation changes the counter, the table, the histories and the pass context alone. -/
theorem formPass_eq (s : State) : formPass s =
    ((s.setJob { s.job with
        passCounter := s.job.passCounter + 1, table := washingTable s.pass.batch s.job.table }).setDiu
      { s.diu with
        histories := (formedPass s).members.map (fun m => { index := m.index, c := [], t := [] }) }).setPass
      (formedPass s) := by
  unfold formPass
  dsimp only
  rw [requestWashings_eq]
  rfl

variable (s : State)

/-- A formed pass gathers no more, so the counter it raises keeps its bound (R33). -/
theorem formPass_held (gathering : s.pass.phase = .gathering) : Held s (formPass s) where
  bounds b := by
    rw [formPass_eq]
    exact ⟨b.fifo, b.flag, b.peers, ⟨b.counter.2 gathering, nofun⟩, b.estimate⟩
  fault _ h := by rwa [formPass_eq]
  idle h := by rwa [formPass_eq]

/-! ## Presses (chapter 3) -/

theorem takeSwitches_held (switches : Lines8) : Held s (takeSwitches switches s) := setPanel_held s _

theorem refuse_held (r : Reason) : Held s (refuse r s) := (refuse_work (Work.refl s) r).held

theorem cancelBatch_held : Held s (cancelBatch s) := (cancelBatch_work (Work.refl s)).held

theorem offer_held (i : Nat) : Held s (offer i s) := (offer_work (Work.refl s) i).held

theorem abortPass_held (code : Code) : Held s (abortPass code s) := (abortPass_work (Work.refl s) code).held

/-- A batch begins below the pass limit (R43). -/
theorem enterGathering_held (below : s.job.passCounter < 255) : Held s (enterGathering s) where
  bounds b := ⟨b.fifo, b.flag, b.peers, ⟨b.counter.1, fun _ => below⟩, b.estimate⟩
  fault _ := id
  idle := id

theorem takeStart_held (sel : List Nat) : Held s (takeStart sel s) := by
  by_cases notOpen : s.job.state ≠ .opened
  case pos => rw [takeStart_noJob sel notOpen]; exact refuse_held s _
  case neg =>
  unfold takeStart
  rw [if_neg notOpen]
  split
  · exact cancelBatch_held s
  · split
    · exact refuse_held s _
    · split
      · exact refuse_held s _
      next below =>
        split
        · exact refuse_held s _
        · split
          · exact refuse_held s _
          · exact (enterGathering_held s (not_le.mp below)).trans (foldl_held _ _ (fun t i => offer_held t i) sel)

theorem takeAdd_held (sel : List Nat) : Held s (takeAdd sel s) := by
  unfold takeAdd
  split
  · exact refuse_held s _
  · split
    · split
      · exact (offer_held s _).trans (setPass_held _ _ (by exact id))
      · exact offer_held s _
    · exact refuse_held s _

theorem formIntoHeld_held (gathering : s.pass.phase = .gathering) : Held s (formIntoHeld s) := by
  have entered := (enterHeld_work (Work.refl ((formPass s).setPass { (formPass s).pass with
    resumeAt := some .next, nextStep := some .firstStage }))).held
  exact ((formPass_held s gathering).trans (setPass_held _ _ (by exact id))).trans entered

/-- A phase is left toward HELD. -/
theorem holdAt_held (r : ResumePoint) (fromSpray : Bool) : Held s (holdAt r fromSpray s) :=
  (runDownToHeld_work (setPass_work (Work.refl s) _ (by exact id)) _).held

theorem holdInRunDown_held : Held s (holdInRunDown s) := by
  unfold holdInRunDown pendHold
  split
  case h_3 | h_4 | h_5 => exact Held.refl s
  all_goals exact setPass_held s _ (by exact id)

theorem takeHold_held : Held s (takeHold s) := by
  unfold takeHold
  split
  case h_2 gathering =>
    split
    · exact cancelBatch_held s
    · exact formIntoHeld_held s gathering
  case h_3 | h_4 | h_5 => exact holdAt_held s _ _
  case h_6 => exact setPass_held s _ (by exact id)
  case h_7 => exact holdInRunDown_held s
  case h_8 => exact (enterHeld_work (setPass_work (Work.refl s) _ (by exact id))).held
  all_goals exact Held.refl s

theorem resumeHeld_held : Held s (resumeHeld s) := by
  have w := Work.refl s
  unfold resumeHeld
  split
  · exact (resumeFlush_work w).held
  · exact (resumeSpray_work w).held
  · exact (resumeDrain_work w).held
  · exact (pumpAtRest_work (setPass_work w _ (by simp))).held
  · exact (beginStep_work w _).held
  · exact w.held

theorem takeResume_held : Held s (takeResume s) := by
  unfold takeResume
  split
  case h_1 => exact cancelBatch_held s
  case h_2 => exact resumeHeld_held s
  all_goals exact Held.refl s

theorem takeAbandon_held (sel : List Nat) : Held s (takeAbandon sel s) := by
  unfold takeAbandon
  split
  · exact cancelBatch_held s
  · split
    · exact stopFill_held s _
    · split
      · exact refuse_held s _
      · exact abortPass_held s _

theorem dropKeyed_held : Held s (dropKeyed s) :=
  foldl_held s _ (fun t b => (dropFromBatch_work (Work.refl t) b).held) _

theorem retireKeyed_held : Held s (retireKeyed s) := by
  unfold retireKeyed
  split
  · exact Held.refl s
  · exact (settle_work (foldl_work (Work.refl s) _ _ (fun t w m => retire_work w _ _ _))).held

theorem passKeyOff_held : Held s (passKeyOff s) := by
  unfold passKeyOff
  split
  case h_1 | h_10 => exact Held.refl s
  case h_2 => exact dropKeyed_held s
  all_goals exact retireKeyed_held s

/-! ## Lines of the field (R56, R90) -/

theorem recordLate_work {s t : State} (h : Work s t) (k : FaultKind) (i : Nat) : Work s (recordLate k i t) := by
  unfold recordLate
  split
  · exact raiseFault_work (setPass_work h _ (by exact id)) _ _ _
  · exact h

theorem watchMember_work {s t : State} (h : Work s t) (k : FaultKind) (i : Nat) : Work s (watchMember k i t) := by
  unfold watchMember
  split
  · exact recordLate_work h k i
  · split
    · exact recordLate_work h k i
    · exact settle_work (memberFault_work h _ _ _)

theorem recordMember_work {s t : State} (h : Work s t) (k : FaultKind) (i : Nat) : Work s (recordMember k i t) := by
  unfold recordMember
  split
  · exact raiseFault_work h _ _ _
  · exact h

theorem takeHeadDrop_work {s t : State} (h : Work s t) (i : Nat) : Work s (takeHeadDrop i t) := by
  unfold takeHeadDrop
  split
  case h_1 =>
    unfold dropUnseated
    split
    · exact h
    · exact raiseFault_work (dropFromBatch_work h _) _ _ _
  case h_2 | h_3 | h_4 => exact watchMember_work h _ _
  case h_5 => exact recordMember_work h _ _
  case h_10 => exact h
  all_goals exact recordLate_work h _ _

theorem takeProbeWet_work {s t : State} (h : Work s t) (i : Nat) : Work s (takeProbeWet i t) := by
  unfold takeProbeWet
  split
  case h_1 =>
    unfold watchSpraying
    split
    · exact watchMember_work h _ _
    · exact recordLate_work h _ _
  case h_2 => exact recordMember_work h _ _
  case h_9 | h_10 => exact h
  all_goals exact recordLate_work h _ _

theorem endIfRunDown_work {s t : State} (h : Work s t) : Work s (endIfRunDown t) := by
  unfold endIfRunDown
  split
  · exact endRunDown_work h
  · exact h

/-! ## Samples, limits and windows (chapters 4 and 6) -/

theorem lateTempLow_work {s t : State} (h : Work s t) : Work s (lateTempLow t) :=
  passFault_work (setPass_work h _ (by exact id)) _ _ _ (fun _ w => w)

theorem lowTemperature_work {s t : State} (h : Work s t) (r : SprayRecord) : Work s (lowTemperature r t) := by
  unfold lowTemperature
  split
  · exact passFault_work (setPass_work h _ (by exact id)) _ _ _ (fun _ w => w)
  · exact setPass_work h _ (by exact id)

theorem lateLowSample_work {s t : State} (h : Work s t) (n : Nat) : Work s (lateLowSample n t) := by
  unfold lateLowSample
  split
  · exact lateTempLow_work h
  · exact setPass_work h _ (by exact id)

theorem temperatureSample_work {s t : State} (h : Work s t) : Work s (temperatureSample t) := by
  unfold temperatureSample
  split
  · split
    · split
      · exact lateLowSample_work h _
      · exact h
    · exact h
  · split
    · exact h
    · split
      · exact lowTemperature_work h _
      · exact h

theorem windowTick_work {s t : State} (h : Work s t) (forced : Option EndCause) (satC satT : Bool) :
    Work s (windowTick forced satC satT t) := by
  unfold windowTick
  split
  · exact h
  · split
    · dsimp only
      split
      · exact endWindow_work h _ _
      · exact setDiu_work h _
    · exact h

theorem diuTick_work {s t : State} (h : Work s t) (forced : Option EndCause) : Work s (diuTick forced t) :=
  windowTick_work (recordFlush_work (sensorCheck_work (temperatureSample_work (sampleLoops_work h)))) _ _ _

theorem endFlush_work {s t : State} (h : Work s t) : Work s (endFlush t) := by
  unfold endFlush
  split
  · exact enterSpray_work (formBaseline_work (formBaseline_work h _) _)
  · exact h

theorem reachTimeLimit_work {s t : State} (h : Work s t) : Work s (reachTimeLimit t) := by
  unfold reachTimeLimit
  split
  · exact passFault_work (setPass_work h _ (by exact id)) _ _ _ (fun _ w => w)
  · split
    · exact h
    · split
      · exact passFault_work (setPass_work h _ (by exact id)) _ _ _ (fun _ w => enterDrain_work w)
      · exact h

theorem reachTempLow_work {s t : State} (h : Work s t) : Work s (reachTempLow t) := by
  unfold reachTempLow
  split
  · exact lateTempLow_work h
  · split
    · exact h
    · split
      · exact lowTemperature_work h _
      · exact h

theorem endWindowOf_work {s t : State} (h : Work s t) (i : Nat) : Work s (endWindowOf i t) := by
  unfold endWindowOf
  split
  · exact h
  · split
    · exact diuTick_work h _
    · exact h

/-! ## Meters (R61) -/

theorem passSupply_phase (n : Nat) (p : Pass) : (passSupply n p).phase = p.phase := by
  unfold passSupply
  split <;> rfl

theorem passAgent_phase (n : Nat) (p : Pass) : (passAgent n p).phase = p.phase := by
  unfold passAgent
  split <;> rfl

theorem passDrain_phase (p : Pass) : (passDrain p).phase = p.phase := by
  unfold passDrain
  split <;> rfl

theorem supplyPulses_held (n : Nat) : Held s (supplyPulses n s) := by
  have counted := (tallySupply_held s n).trans (setPass_held _ (passSupply n (tallySupply n s).pass)
    (passSupply_phase n _).symm.trans)
  unfold supplyPulses sprayEndCheck
  dsimp only
  split
  · exact counted.trans (enterDrain_work (Work.refl _)).held
  · exact counted

theorem reachVolume_held : Held s (reachVolume s) := by
  unfold reachVolume
  split
  · exact Held.refl s
  · split
    · exact supplyPulses_held s _
    · exact Held.refl s

theorem agentPulses_held (n : Nat) : Held s (agentPulses n s) :=
  (tallyAgent_held s n).trans (setPass_held _ _ (passAgent_phase n _).symm.trans)

theorem reachAllowance_held : Held s (reachAllowance s) := by
  unfold reachAllowance
  split
  · exact Held.refl s
  · split
    · exact agentPulses_held s _
    · exact Held.refl s

theorem drainPulse_held : Held s (drainPulse s) :=
  ((tallyEffluent_held s).trans (setPass_held _ _ (passDrain_phase _).symm.trans)).trans (setDiu_held _ _)

/-! ## Timers and frames -/

theorem endDry_held : Held s (endDry s) := by
  unfold endDry
  split
  · exact (advanceOrCommit_work (Work.refl s)).held
  · exact Held.refl s

theorem holdTooLong_held : Held s (holdTooLong s) := by
  unfold holdTooLong
  split
  · exact abortPass_held s _
  · exact Held.refl s

theorem supplyLost_held : Held s (supplyLost s) := by
  unfold supplyLost
  split
  · exact abortPass_held s _
  · exact Held.refl s

theorem endIfDrainDown_held : Held s (endIfDrainDown s) := by
  unfold endIfDrainDown
  split
  · exact (endDrainDown_work (Work.refl s)).held
  · exact Held.refl s

theorem windowExpires_held : Held s (windowExpires s) := by
  unfold windowExpires
  split
  next gathering =>
    split
    · exact (refuse_held s _).trans (setPass_held _ _ nofun)
    · exact (formPass_held s gathering).trans (enterStage_work (Work.refl _)).held
  · exact Held.refl s

theorem releasePass_held : Held s (releasePass s) := by
  unfold releasePass
  split
  · exact cancelBatch_held s
  · exact abortPass_held s _

theorem releaseOpen_held : Held s (releaseOpen s) := by
  have stopped := (releasePass_held s).trans (stopFill_held _ .released)
  unfold releaseOpen
  dsimp only
  split
  · exact stopped.trans (finishRelease_work (Work.refl _)).held
  · exact stopped.trans (setJob_held _ _ (by exact le_rfl))

theorem takeRelease_held : Held s (takeRelease s) := by
  unfold takeRelease
  split
  case h_2 | h_3 => exact toNoJob_held s
  case h_4 => exact releaseOpen_held s
  all_goals exact Held.refl s

/-- A frame that the filter takes or not. -/
theorem ite_held {p : Prop} [Decidable p] (f : State → State) (h : Held s (f s)) :
    Held s (if p then f s else s) := by
  split
  · exact h
  · exact Held.refl s

/-! ## The end of an event -/

theorem Sends.held {s t : State} (h : Sends s t) : Held s t := by
  obtain ⟨rest, fifo, _⟩ := h
  rw [rest]
  exact setLine_held s t.line (by rw [fifo])

theorem Ends.held {s t : State} (h : Ends s t) : Held s t := by
  obtain ⟨rest, fifo, _, share⟩ := h
  rw [rest]
  exact (setLine_held s t.line (by rw [fifo])).trans (setShare_held _ t.share (by rw [share]; rfl))

theorem reportStarvation_held : Held s (reportStarvation s) := by
  unfold reportStarvation
  dsimp only
  have reported (b : Bool) : Held s (s.setShare { s.share with starved := b }) := setShare_held s _ (by rfl)
  split
  · split
    · exact Held.refl s
    · split
      · exact (reported true).trans (runDownToStarved_work (Work.refl _)).held
      · exact reported true
  · exact reported false

theorem lookConditions_held (s0 : State) : Held s (lookConditions s0 s) := by
  unfold lookConditions lookResumption
  split
  · split
    · exact (reportStarvation_held s).trans (runSpray_work (Work.refl _)).held
    · exact reportStarvation_held s
  · exact Held.refl s

theorem conclude_held (s0 : State) : Held s (conclude s0 s) :=
  ((lookConditions_held s s0).trans (sent_ends s0 _).held).trans (setOuts_held _ _)

/-! ## Every command -/

/-- An event whose effect holds. -/
theorem event_held {f : State → State} {t : State} (h : event f s = .next t) (hf : Held s (f s)) : Held s t := by
  obtain ⟨_, rfl⟩ | ⟨_, rfl⟩ := event_next_cases h
  · exact Held.refl t
  · exact hf.trans (conclude_held _ s)

/-- Every command holds, but the ones that name what they change: the fault record emptied, a fill begun, the reset. -/
theorem exec_held (c : Instr) (notHeld : c ≠ .resetLineHeld) (notStart : ∀ r, c ≠ .endOfStartUp r)
    (notClear : c ≠ .clearFault) (notFill : ∀ switches, c ≠ .fill switches) {t : State}
    (h : exec c s = .next t) : Held s t := by
  have w (u : State) := Work.refl u
  cases c <;> unfold exec at h
  case resetLineHeld => exact absurd rfl notHeld
  case endOfStartUp r => exact absurd rfl (notStart r)
  case clearFault => exact absurd rfl notClear
  case fill switches => exact absurd rfl (notFill switches)
  case resetLineRelease =>
    obtain ⟨_, rfl⟩ | ⟨_, rfl⟩ := resetLineRelease_next_cases h
    · exact Held.refl t
    · exact ⟨fun b => ⟨b.1, b.2, b.3, b.4, b.5⟩, fun _ => id, id⟩
  case start switches => exact event_held s h ((takeSwitches_held s _).trans (takeStart_held _ _))
  case add switches => exact event_held s h ((takeSwitches_held s _).trans (takeAdd_held _ _))
  case hold => exact event_held s h (takeHold_held s)
  case resume => exact event_held s h (takeResume_held s)
  case abandon switches => exact event_held s h ((takeSwitches_held s _).trans (takeAbandon_held _ _))
  case keyOff => exact event_held s h (((setPanel_held s _).trans (passKeyOff_held _)).trans (fillKeyOff_held _))
  case keyOn => exact event_held s h (setPanel_held s _)
  case headSeatedDrop i => exact event_held s h (takeHeadDrop_work (takeLine_work (w s) _ _) i).held
  case highLevelProbeWet i =>
    exact event_held s h ((takeProbeWet_work (takeLine_work (w s) _ _) i).held.trans (fillProbeWet_held _ i))
  case fillArmDrop i => exact event_held s h ((setPanel_held s _).trans (fillArmDropped_held _ i))
  case pumpStoppedOn => exact event_held s h (endIfRunDown_work (takeLine_work (w s) _ _)).held
  case runDownTimeout => exact event_held s h (endIfRunDown_work (w s)).held
  case supplyPulse => exact event_held s h (supplyPulses_held s 1)
  case sprayVolumeReached => exact event_held s h (reachVolume_held s)
  case agentPulse => exact event_held s h (agentPulses_held s 1)
  case agentAllowanceReached => exact event_held s h (reachAllowance_held s)
  case drainPulse => exact event_held s h (drainPulse_held s)
  case productPulse => exact event_held s h (productPulses_held s 1)
  case fullFlowClosePoint => exact event_held s h (reachFullFlowClose_held s)
  case trimClosePoint => exact event_held s h (reachTrimClose_held s)
  case fillStalled => exact event_held s h (fillStalled_held s)
  case runOnEnd => exact event_held s h (endRunOn_held s)
  case diuSample loopC loopT loopTemp => exact event_held s h (diuTick_work (setPanel_work (w s) _) none).held
  case channelAbsent ch => exact event_held s h (sensorCheck_work (setDiu_work (w s) _)).held
  case channelPresent ch => exact event_held s h (setDiu_held s _)
  case baselineFormed ch => exact event_held s h (formBaseline_work (w s) ch).held
  case flushTimeExpiry => exact event_held s h (endFlush_work (w s)).held
  case stageTime => exact event_held s h (reachTimeLimit_work (w s)).held
  case tempLow => exact event_held s h (reachTempLow_work (w s)).held
  case drainWindowEnd i => exact event_held s h (endWindowOf_work (w s) i).held
  case dryTimeExpiry => exact event_held s h (endDry_held s)
  case holdTimerExpiry => exact event_held s h (holdTooLong_held s)
  case starvationTimerExpiry => exact event_held s h (supplyLost_held s)
  case drainDownQuiet => exact event_held s h (endIfDrainDown_held s)
  case drainDownTimeout => exact event_held s h (endIfDrainDown_held s)
  case appendWindowExpiry => exact event_held s h (windowExpires_held s)
  case jobPostHeader f => exact event_held s h (ite_held s _ (takeJobHeader_held s f))
  case jobPostCompartment f => exact event_held s h (ite_held s _ (takeSlot_held s _ _))
  case assemblyDeadlineExpiry => exact event_held s h (deadlineExpires_held s)
  case jobRelease f => exact event_held s h (ite_held s _ (takeRelease_held s))
  case reportRecall f => exact event_held s h (ite_held s _ (answerRecall_work (w s)).held)
  case refusedLampExpiry => exact event_held s h (setPanel_held s _)
  case supply f => exact event_held s h (ite_held s _ (ifInService_held s _ (fun t => takeSupply_held t _ _ _)))
  case supplyStale => exact event_held s h (goStale_held s)
  case demand f => exact event_held s h (ite_held s _ (ifInService_held s _ (fun t => takeDemand_held t _ _)))
  case peerSilenceExpiry n => exact event_held s h (peerSilent_held s n)
  case bayRestarted f => exact event_held s h (ite_held s _ (ifInService_held s _ (fun t => takeRestarted_held t _)))
  case bayStatus f => exact event_held s h (ite_held s _ (ifInService_held s _ (fun t => takeStatus_held t _)))
  case demandRefreshExpiry => exact event_held s h (refreshDemand_held s)
  case steadyTimerExpiry => exact event_held s h (steadyExpires_held s)
  case sumpSample loop => exact event_held s h (sumpSample_held s loop)
  case transmitComplete => exact event_held s h (ite_held s _ (sendComplete_held s))
  case bayStatusRefreshExpiry => exact event_held s h (statusExpires_held s)
  case busOff => exact event_held s h (goBusOff_held s)
  case busRecovery => exact event_held s h (recoverBus_held s)

end Sys2Proof.Machine
end

section
/-! SUPPORT. What a step can be, said once (`step_cases`); a FILL by its outcomes; one millisecond holds the bounds. -/

namespace Sys2Proof.Machine

variable {s t : State}

/-! ## FILL (R141) -/

/-- What the checks of FILL have found when none of them refuses (R141, R142). -/
theorem fillCheck_passed {c : Compartment} (h : fillCheck s c = none) :
    (c.state = .clean ∨ c.state = .partFilled) ∧ c.fillTarget ≠ 0
    ∧ ∃ x, c.certificate = some x ∧ (minGradeOf s).rank ≤ x.grade.rank ∧ x.fitFor = c.nextClass
      ∧ (c.keyed = true → keyIsOn s = true) ∧ armOn s c.index = true ∧ probeWet s c.index = false := by
  unfold fillCheck at h
  split at h
  · cases h
  next clean =>
  split at h
  · cases h
  next requested =>
  split at h
  · cases h
  next x certified =>
  have state : c.state = .clean ∨ c.state = .partFilled := by tauto
  split at h
  · cases h
  next grade =>
  split at h
  · cases h
  next fit =>
  split at h
  · cases h
  next key =>
  split at h
  · cases h
  next arm =>
  split at h
  · cases h
  next probe =>
  exact ⟨state, requested, x, certified, not_lt.mp grade, not_not.mp fit, by simpa using key, by simpa using arm,
    by simpa using probe⟩

/-- A FILL does nothing, is refused, or begins the fill of the one compartment selected. -/
theorem takeFill_cases (sel : List Nat) (s : State) :
    takeFill sel s = s ∨ (∃ r, takeFill sel s = refuse r s)
    ∨ ∃ i c, compartment? s i = some c ∧ s.job.state = .opened ∧ s.fill.ctx = none ∧ fillCheck s c = none
      ∧ takeFill sel s = beginFill c s := by
  unfold takeFill
  by_cases opened : s.job.state = .opened
  case neg => exact .inr (.inl ⟨_, if_pos opened⟩)
  case pos =>
  rw [if_neg (not_not.mpr opened)]
  split
  case h_2 => exact .inr (.inl ⟨_, rfl⟩)
  case h_1 i =>
  by_cases idle : s.fill.ctx.isSome = true
  case pos => exact .inr (.inl ⟨_, if_pos idle⟩)
  case neg =>
  rw [if_neg idle]
  cases found : compartment? s i with
  | none => exact .inl rfl
  | some c =>
    cases checked : fillCheck s c with
    | some r => exact .inr (.inl ⟨r, by simp [checked]⟩)
    | none => exact .inr (.inr ⟨i, c, found, opened, by simpa using idle, checked, by simp [checked]⟩)

/-- The compartment that is found bears its index. -/
theorem compartment?_index {i : Nat} {c : Compartment} (h : compartment? s i = some c) : c.index = i := by
  simpa using List.find?_some h

/-- A fill begun: the bounds, and a first fault, stand. -/
theorem beginFill_keeps (c : Compartment) (s : State) :
    (Bounds s → Bounds (beginFill c s)) ∧ (beginFill c s).faults = s.faults :=
  ⟨fun b => ⟨b.fifo, b.flag, b.peers, b.counter, b.estimate⟩, rfl⟩

/-- FILL keeps the bounds and a first fault. -/
theorem takeFillPress_keeps (sel : List Nat) (s : State) :
    (Bounds s → Bounds (takeFillPress sel s))
    ∧ ∀ r, s.faults.record = some r → (takeFillPress sel s).faults.record = some r := by
  unfold takeFillPress
  split
  · exact ⟨(cancelBatch_held s).bounds, (cancelBatch_held s).fault⟩
  · obtain same | ⟨r, refused⟩ | ⟨_, c, _, _, _, _, begun⟩ := takeFill_cases sel s
    · rw [same]
      exact ⟨id, fun _ => id⟩
    · rw [refused]
      exact ⟨(refuse_held s r).bounds, (refuse_held s r).fault⟩
    · rw [begun]
      exact ⟨(beginFill_keeps c s).1, fun r h => h⟩

/-! ## Every command keeps the bounds -/

theorem exec_fill_keeps {switches : Lines8} (h : exec (.fill switches) s = .next t) :
    (Bounds s → Bounds t) ∧ ∀ r, s.faults.record = some r → t.faults.record = some r := by
  unfold exec at h
  obtain ⟨_, rfl⟩ | ⟨_, rfl⟩ := event_next_cases h
  · exact ⟨id, fun _ => id⟩
  · obtain ⟨hb, hf⟩ := takeFillPress_keeps (selection switches s) (takeSwitches switches s)
    have ends := conclude_held (takeFillPress (selection switches s) (takeSwitches switches s)) s
    exact ⟨fun b => ends.bounds (hb ((takeSwitches_held s switches).bounds b)),
      fun r e => ends.fault r (hf r e)⟩

theorem clearRecord_bounds (b : Bounds s) : Bounds (clearRecord s) := ⟨b.fifo, nofun, b.peers, b.counter, b.estimate⟩

/-- The estimate of a module just started (R139). -/
theorem resetEstimate_bounded : FillUnit.reset.estimate ≤ Config.maxEstimate := by decide

theorem loseState_bounds (s : State) : Bounds (loseState s) :=
  ⟨Nat.zero_le _, nofun, List.Pairwise.nil, ⟨Nat.zero_le _, nofun⟩, resetEstimate_bounded⟩

theorem startedState_bounds (r : StartUpRead) (s : State) : Bounds (startedState r s) :=
  ⟨Nat.zero_le _, nofun, List.Pairwise.nil, ⟨Nat.zero_le _, nofun⟩, resetEstimate_bounded⟩

theorem joinBus_held (s : State) : Held s (joinBus s) := by
  have asked : Held s (askStatus (queueEvent (bayRestartedNotice s.reader) s)) :=
    (askStatus_work (queueEvent_work (Work.refl s) _)).held
  unfold joinBus
  dsimp only
  split
  · exact asked.trans (placeDemand_held _)
  · exact asked

theorem exec_bounds {c : Instr} (h : exec c s = .next t) (b : Bounds s) : Bounds t := by
  by_cases held : c = .resetLineHeld
  case pos => subst held; exact resetLineHeld_next h ▸ loseState_bounds s
  case neg =>
  by_cases start : ∃ r, c = .endOfStartUp r
  case pos =>
    obtain ⟨r, rfl⟩ := start
    obtain ⟨_, rfl⟩ | ⟨_, rfl⟩ := endOfStartUp_next_cases h
    · exact b
    · exact ((joinBus_held _).trans (conclude_held _ _)).bounds (startedState_bounds r s)
  case neg =>
  by_cases clear : c = .clearFault
  case pos =>
    subst clear
    unfold exec at h
    obtain ⟨_, rfl⟩ | ⟨_, rfl⟩ := event_next_cases h
    · exact b
    · exact (conclude_held _ s).bounds (clearRecord_bounds b)
  case neg =>
  by_cases fill : ∃ switches, c = .fill switches
  case pos =>
    obtain ⟨switches, rfl⟩ := fill
    exact (exec_fill_keeps h).1 b
  case neg => exact (exec_held s c held (not_exists.mp start) clear (not_exists.mp fill) h).bounds b

/-! ## One millisecond -/

theorem passOneMs_held (s : State) : Held s (passOneMs s) where
  bounds b := by
    refine ⟨b.fifo, b.flag, ?_, b.counter, b.estimate⟩
    exact List.pairwise_map.mpr b.peers
  fault _ := id
  idle h := by simp [passOneMs, h]

/-! ## What a step can be (log 2, log 3) -/

/-- `u` is `s` with another queue and another count of free values. -/
structure Queued (s u : State) : Prop where
  rest : u = { s with pending := u.pending, free := u.free }

theorem Queued.bounds {u : State} (q : Queued s u) (b : Bounds s) : Bounds u := by
  rw [q.rest]
  exact ⟨b.fifo, b.flag, b.peers, b.counter, b.estimate⟩

/-- The outputs do not depend on the queue. -/
theorem Queued.outputsDriven {u : State} (q : Queued s u) (driven : OutputsDriven s) : OutputsDriven u := by
  rw [q.rest]
  exact driven

/-- A step idles, or one ms passes, or a command is taken, one of a line's change or not, or a line takes its level. -/
inductive StepCase (s t : State) : Prop
  | idles (h : t = s)
  | oneMs (h : t = conclude s (passOneMs s))
  | command (u : State) (c : Instr) (q : Queued s u) (h : exec c u = .next t)
  | line (u : State) (l : Line) (b : Bool) (c : Instr) (q : Queued s u)
      (isCommand : lineCommand l b u.panel.level.select = some c) (h : exec c (takeLine l b u) = .next t)
  | level (u : State) (l : Line) (b : Bool) (q : Queued s u) (h : t = takeLine l b u)

theorem takeDue_cases {u : State} {d : Due} (q : Queued s u) (h : takeDue d u = .next t) : StepCase s t := by
  cases d with
  | command c => exact .command u c q h
  | line l =>
    cases hc : lineCommand l (l.level u.panel.raw) u.panel.level.select with
    | some c =>
      refine .line u l _ c q hc ?_
      simpa only [takeDue, lineEvent, hc] using h
    | none =>
      refine .level u l (l.level u.panel.raw) q ?_
      simpa only [takeDue, lineEvent, hc, Host.Outcome.next.injEq, eq_comm] using h

theorem step_cases (h : step s = .next t) : StepCase s t := by
  unfold step at h
  split at h
  next c rest _ => exact .command (s.withPending rest) c ⟨rfl⟩ h
  next =>
    unfold idleStep at h
    split at h
    next running =>
      unfold idle at h
      split at h
      · rw [event_running _ s running, Host.Outcome.next.injEq] at h
        exact .oneMs h.symm
      · exact takeDue_cases ⟨rfl⟩ h
      · exact takeDue_cases ⟨rfl⟩ h
    next => exact .idles (Host.Outcome.next.inj h).symm

end Sys2Proof.Machine
end

section
open Sys2Proof Sys2Proof.Machine

/-- Settles O57: whatever the step is (`step_cases`), its commands keep the bounds (`exec_bounds`). -/
theorem everyStepKeepsTheBounds : Obligations.EveryStepKeepsTheBounds := by
  unfold Obligations.EveryStepKeepsTheBounds
  intro s t fifo flag peers counter estimate hstep
  have b : Bounds s := ⟨fifo, flag, peers, counter, estimate⟩
  suffices k : Bounds t from ⟨k.fifo, k.flag, k.peers, k.counter, k.estimate⟩
  cases step_cases hstep with
  | idles h => exact h ▸ b
  | oneMs h => exact h ▸ ((passOneMs_held s).trans (conclude_held _ s)).bounds b
  | command u c q h => exact exec_bounds h (q.bounds b)
  | line u l v c q _ h => exact exec_bounds h ((setPanel_held u _).bounds (q.bounds b))
  | level u l v q h => exact h ▸ (setPanel_held u _).bounds (q.bounds b)

end

section
open Sys2Proof Sys2Proof.Machine

/-- Settles O58: whatever the step is (`step_cases`), its event ends with the outputs driven, or what drives them has
not changed. -/
theorem outputsAreDrivenAtEveryStep : Obligations.OutputsAreDrivenAtEveryStep := by
  unfold Obligations.OutputsAreDrivenAtEveryStep
  intro s t driven hstep
  cases step_cases hstep with
  | idles h => exact h ▸ driven
  | oneMs h => exact h ▸ conclude_outs _ _
  | command u c q h => exact exec_keeps_outputsDriven (q.outputsDriven driven) h
  | line u l v c q _ h =>
    have taken : OutputsDriven (takeLine l v u) := q.outputsDriven driven
    exact exec_keeps_outputsDriven taken h
  | level u l v q h => exact h ▸ q.outputsDriven driven

end

section
/-! SUPPORT. The frame of an event, read off the state that its effect has left; commands of a module in operation as
`conclude` of their effect. -/

namespace Sys2Proof.Machine

variable {s u t : State}

/-! ## The end of an event as a frame of the state before it -/

/-- What the effect has left alone of the module, the end of its event leaves alone. -/
theorem Concluded.sameModule (k : Concluded u t) (h : SameModule s u) : SameModule s t := by
  obtain ⟨power, reader, free, pending⟩ := h
  obtain ⟨power', reader', free', pending'⟩ := k.module
  exact ⟨power'.trans power, reader'.trans reader, free'.trans free, pending'.trans pending⟩

theorem Concluded.sameShare (k : Concluded u t) (h : u.share = s.share) : SameShare s t := by
  have share := k.share
  rwa [SameShare, h] at share

theorem Concluded.sending (k : Concluded u t) (h : u.line.bus = s.line.bus) : Sending u.line.fifo s t :=
  ⟨k.line.1, k.line.2.trans h⟩

theorem Concluded.sameDiuFillFaults (k : Concluded u t) (hd : u.diu = s.diu) (hf : u.fill = s.fill)
    (hr : u.faults = s.faults) : SameDiuFillFaults s t :=
  ⟨k.diu.trans hd, k.fill.trans hf, k.faults.trans hr⟩

theorem SameModule.refl (s : State) : SameModule s s := ⟨rfl, rfl, rfl, rfl⟩

/-! ## The REFUSED lamp out, the fill valves shut -/

theorem drive_refusedLamp_out (h : s.panel.refused = none) : (drive s).refusedLamp = .out := by
  unfold drive driveInService lampsOnly
  split
  · split <;> simp [h]
  · rfl

theorem drive_valves_shut (h : ∀ x, s.fill.ctx = some x → x.phase = .runOn) :
    (drive s).fillHigh = false ∧ (drive s).fillLow = false := by
  have shut : ∀ p : FillPhase, p ≠ .runOn → s.fill.ctx.map (·.phase) ≠ some p := by
    intro p hp e
    obtain ⟨x, hx, rfl⟩ := Option.map_eq_some_iff.mp e
    exact hp (h x hx)
  unfold drive driveInService lampsOnly
  split
  · split
    · simp [shut]
    · exact ⟨rfl, rfl⟩
  · exact ⟨rfl, rfl⟩

/-! ## A BAY_STATUS whose fields have changed is placed (R175) -/

theorem placeDemand_gap (s : State) : (placeDemand s).line.gap = s.line.gap := by
  unfold placeDemand
  split <;> rfl

theorem formDemand_gap (s0 s : State) : (formDemand s0 s).line.gap = s.line.gap := by
  unfold formDemand
  dsimp only
  split
  · split
    · exact placeDemand_gap _
    · rfl
  · rfl

theorem formDemand_bayStatus (s0 s : State) : bayStatus (formDemand s0 s) = bayStatus s := by
  obtain ⟨rest, _, _, share⟩ := formDemand_ends s0 s
  have gap := formDemand_gap s0 s
  rw [rest, share]
  unfold bayStatus
  rw [gap]
  rfl

/-- A change of a field that BAY_STATUS carries restarts its refresh timer, the starvation inputs standing (R175). -/
theorem conclude_statusTimer_of_changed (s0 : State) (hin : starveInputs u = starveInputs s0)
    (changed : bayStatus u ≠ bayStatus s0) : (conclude s0 u).line.statusTimer = some Config.statusRefresh := by
  have placed : refreshStatus s0 (formDemand s0 u) = placeStatus (formDemand s0 u) :=
    if_pos (.inr (by rwa [formDemand_bayStatus]))
  unfold conclude
  rw [lookConditions_same s0 u hin, driveOutputs_line, placed]
  exact sendNext_statusTimer _ (placeStatus_statusTimer _)

end Sys2Proof.Machine
end

section
open Sys2Proof Sys2Proof.Machine

/-- Settles O2: the step matches on the queue. -/
theorem stepTakesFrontCommand : Obligations.StepTakesFrontCommand := by
  unfold Obligations.StepTakesFrontCommand
  exact fun _ _ _ => rfl

/-- Settles O1: the state after reset is concrete. -/
theorem resetLeavesEveryBlockEmpty : Obligations.ResetLeavesEveryBlockEmpty := by
  unfold Obligations.ResetLeavesEveryBlockEmpty
  obtain ⟨fifo, flag, peers, counter, estimate⟩ : Bounds State.reset :=
    ⟨Nat.zero_le _, nofun, List.Pairwise.nil, ⟨Nat.zero_le _, nofun⟩, resetEstimate_bounded⟩
  exact ⟨rfl, rfl, rfl, rfl, rfl, rfl, rfl, rfl, rfl, rfl, rfl, rfl, rfl, rfl, rfl, rfl, rfl, rfl, rfl, rfl, rfl, rfl, rfl, 
    rfl, rfl, rfl, rfl, rfl, rfl, rfl, rfl, rfl, rfl, rfl, rfl, rfl, rfl, rfl, rfl, rfl, 
    fifo, flag, peers, counter, estimate, rfl⟩

/-- Settles O4: every command but those of power is an event, which is not taken before the end of start-up; the
commands of the reset line say what they leave. -/
theorem resetLineHeldAndReleased : Obligations.ResetLineHeldAndReleased := by
  unfold Obligations.ResetLineHeldAndReleased
  refine ⟨fun c s notRunning notHeld notRelease notStart => ?_, fun s => ?_, fun s held => ?_, fun s notHeld => ?_⟩
  · obtain ⟨f, isEvent⟩ := exec_eq_event c notHeld notRelease notStart
    rw [isEvent, event_not_running f s notRunning]
  · exact ⟨loseState s, rfl, rfl, rfl, rfl, rfl, rfl, rfl, rfl, rfl, rfl, rfl, rfl, rfl, rfl⟩
  · exact congrArg Host.Outcome.next (if_pos held)
  · exact congrArg Host.Outcome.next (if_neg notHeld)

/-- Settles O10: neither event touches the starvation inputs, so each ends with what it did (`conclude_same`). -/
theorem keyOnAndRefusedLampExpiry : Obligations.KeyOnAndRefusedLampExpiry := by
  unfold Obligations.KeyOnAndRefusedLampExpiry
  refine fun s running => ⟨?_, ?_⟩
  · have k := conclude_same s (takeLine .key true s) rfl
    refine ⟨_, event_running _ s running, k.panel.trans ?_, k.sameModule (.refl s), k.job, k.pass,
      k.sameDiuFillFaults rfl rfl rfl, k.sameShare rfl, k.sending rfl⟩
    rw [k.panel]
    rfl
  · have k := conclude_same s (refusedOut s) rfl
    refine ⟨_, event_running _ s running, k.panel, ?_, k.sameModule (.refl s), k.job, k.pass,
      k.sameDiuFillFaults rfl rfl rfl, k.sameShare rfl, k.sending rfl⟩
    rw [conclude_outs]
    exact drive_refusedLamp_out (by rw [k.panel]; rfl)

/-- Settles O8: CLEAR_FAULT ends with the record it has emptied, a change that BAY_STATUS carries; every other command
holds a first fault (`exec_held`). -/
theorem clearFaultEmptiesTheRecordAlone : Obligations.ClearFaultEmptiesTheRecordAlone := by
  unfold Obligations.ClearFaultEmptiesTheRecordAlone
  refine ⟨fun s running => ?_, fun c s t r record h notClear notHeld notStart => ?_⟩
  · have k := conclude_same s (clearRecord s) rfl
    refine ⟨_, event_running _ s running, k.faults, ?lamp, fun record => ?refreshed, k.sameModule (.refl s), k.job,
      k.pass, k.diu, k.fill, k.panel, k.sameShare rfl, k.sending rfl⟩
    case lamp =>
      have runs : (conclude s (clearRecord s)).power = .running := k.module.1.trans running
      rw [conclude_outs, drive_faultLamp runs, k.faults]
      rfl
    case refreshed =>
      refine conclude_statusTimer_of_changed s rfl (fun same => ?_)
      have emptied : false = s.faults.record.isSome := congrArg BayStatus.faultPresent same
      simp [record] at emptied
  · by_cases fill : ∃ switches, c = .fill switches
    · obtain ⟨switches, rfl⟩ := fill
      exact (exec_fill_keeps h).2 r record
    · exact (exec_held s c notHeld notStart notClear (not_exists.mp fill) h).fault r record

end

section
/-! SUPPORT. The outputs as driven, rule by rule (R15, R63, R67, R101, R140, R168, R185); who begins a fill (R141). -/

namespace Sys2Proof.Machine

variable {s t : State}

/-! ## The outputs driven -/

/-- The outputs are at rest, those of the lamps alone, or those of the blocks (R15, R185). -/
theorem drive_cases (s : State) :
    (¬ inService s ∧ drive s = Outputs.rest) ∨ (¬ inService s ∧ drive s = lampsOnly s)
    ∨ (inService s ∧ drive s = driveInService s) := by
  by_cases running : s.power = .running
  case neg => exact .inl ⟨fun h => running h.1, if_neg running⟩
  case pos =>
  rw [drive, if_pos running]
  by_cases mark : s.reader.mark = .inService
  · exact .inr (.inr ⟨⟨running, mark⟩, if_pos mark⟩)
  · exact .inr (.inl ⟨fun h => mark h.2, if_neg mark⟩)

/-- Every valve, pump, head and outlet of the lamps alone is at rest. -/
theorem lampsOnly_rest (s : State) : { lampsOnly s with refusedLamp := .out, faultLamp := .out } = Outputs.rest := rfl

/-- The pump-out is never set above the effluent share (R168). -/
theorem pumpRateOf_le (s : State) : pumpRateOf s ≤ s.share.effShare := by
  unfold pumpRateOf
  split
  · exact Nat.zero_le _
  · split
    · exact min_le_right _ _
    · exact Nat.zero_le _

/-- The spray of a hot stage is never set above the hot share (R67). -/
theorem spraySetpointOf_le (hot : (stageOf s.pass).hot = true) : spraySetpointOf s ≤ s.share.hotShare := by
  unfold spraySetpointOf
  split
  · exact min_le_right _ _
  · exact Nat.zero_le _

/-- Outlets are open in DRAIN and DRAIN_DOWN alone (R63, R101). -/
theorem outletsOpen_closed {p : Pass} (notDrain : p.phase ≠ .drain) (notDrainDown : p.phase ≠ .drainDown) :
    outletsOpen p = 0 := by
  unfold outletsOpen
  split <;> simp_all

/-- Heads are open in SPRAY and DRY alone (R63). -/
theorem headsOpen_closed {p : Pass} (notSpray : p.phase ≠ .spray) (notDry : p.phase ≠ .dry) : headsOpen p = 0 := by
  unfold headsOpen
  split <;> simp_all

/-! ## The blocks' outputs are safe -/

theorem driveInService_fillValvesSafe (h : s.outs = driveInService s) : FillValvesSafe s := by
  rw [FillValvesSafe, h]
  cases hx : s.fill.ctx with
  | none => simp [driveInService, hx]
  | some x => cases hp : x.phase <;> simp [driveInService, hx, hp]

theorem driveInService_washPathSafe (h : s.outs = driveInService s) : WashPathSafe s := by
  rw [WashPathSafe, h]
  refine ⟨fun pump => ?_, fun bypass => ?_, fun outlets => ?_⟩
  · have spray : s.pass.phase = .spray := of_decide_eq_true pump
    exact ⟨outletsOpen_closed (by simp [spray]) (by simp [spray]), by simp [driveInService, spray],
      by simp [driveInService, spray]⟩
  · have flush : s.pass.phase = .flush := of_decide_eq_true bypass
    exact ⟨outletsOpen_closed (by simp [flush]) (by simp [flush]), headsOpen_closed (by simp [flush]) (by simp [flush])⟩
  · have open_ : s.pass.phase = .drain ∨ s.pass.phase = .drainDown := by
      by_contra closed
      rw [not_or] at closed
      exact outlets (outletsOpen_closed closed.1 closed.2)
    refine headsOpen_closed ?_ ?_ <;> rcases open_ with e | e <;> simp [e]

/-! ## Who begins a fill -/

/-- Only FILL's own command can take the fill unit out of IDLE. -/
theorem exec_begins_fill {c : Instr} {x : FillCtx} (h : exec c s = .next t) (idle : s.fill.ctx = none)
    (begun : t.fill.ctx = some x) : ∃ switches, c = .fill switches := by
  have noFill : t.fill.ctx ≠ none := by simp [begun]
  by_contra notFill
  by_cases held : c = .resetLineHeld
  case pos => subst held; exact noFill (resetLineHeld_next h ▸ rfl)
  case neg =>
  by_cases start : ∃ r, c = .endOfStartUp r
  case pos =>
    obtain ⟨r, rfl⟩ := start
    obtain ⟨_, rfl⟩ | ⟨_, rfl⟩ := endOfStartUp_next_cases h
    · exact noFill idle
    · have unfilled : (startedState r s).fill.ctx = none := rfl
      exact noFill (((joinBus_held _).trans (conclude_held _ _)).idle unfilled)
  case neg =>
  by_cases clear : c = .clearFault
  case pos =>
    subst clear
    unfold exec at h
    obtain ⟨_, rfl⟩ | ⟨_, rfl⟩ := event_next_cases h
    · exact noFill idle
    · have unfilled : (clearRecord s).fill.ctx = none := idle
      exact noFill ((conclude_held _ s).idle unfilled)
  case neg => exact noFill ((exec_held s c held (not_exists.mp start) clear (not_exists.mp notFill) h).idle idle)

/-- What a FILL has found where it begins a fill (R141, R142). -/
theorem exec_fill_begins {switches : Lines8} {x : FillCtx} (h : exec (.fill switches) s = .next t)
    (idle : s.fill.ctx = none) (begun : t.fill.ctx = some x) :
    s.pass.phase ≠ .gathering ∧ s.job.state = .opened
    ∧ ∃ c, compartment? s x.compartment = some c ∧ fillCheck (takeSwitches switches s) c = none := by
  have noFill : t.fill.ctx ≠ none := by simp [begun]
  unfold exec at h
  obtain ⟨_, rfl⟩ | ⟨_, rfl⟩ := event_next_cases h
  · exact absurd idle noFill
  · have ends (u : State) (hu : u.fill.ctx = none) : (conclude s u).fill.ctx = none := (conclude_held u s).idle hu
    have switched : (takeSwitches switches s).fill.ctx = none := idle
    unfold takeFillPress at begun noFill
    by_cases gathering : (takeSwitches switches s).pass.phase = .gathering
    case pos =>
      rw [if_pos gathering] at noFill
      exact absurd (ends _ ((cancelBatch_held _).idle switched)) noFill
    case neg =>
    rw [if_neg gathering] at noFill begun
    obtain same | ⟨r, refused⟩ | ⟨i, c, found, opened, _, checked, begins⟩ :=
      takeFill_cases (selection switches s) (takeSwitches switches s)
    · rw [same] at noFill
      exact absurd (ends _ switched) noFill
    · rw [refused] at noFill
      exact absurd (ends _ ((refuse_held _ r).idle switched)) noFill
    · have fill : (conclude s (beginFill c (takeSwitches switches s))).fill.ctx
          = some (fillCtxFor s.fill.estimate c) :=
        congrArg FillUnit.ctx (conclude_same s (beginFill c (takeSwitches switches s)) rfl).fill
      rw [begins, fill, Option.some.injEq] at begun
      have compartment : x.compartment = i := by
        rw [← begun, ← compartment?_index found]
        unfold fillCtxFor firstPhase
        repeat' split
        all_goals rfl
      exact ⟨gathering, opened, c, compartment ▸ found, checked⟩

end Sys2Proof.Machine
end

section
open Sys2Proof Sys2Proof.Machine

/-- Settles O59: at rest nothing moves; the outputs of the blocks are a function of the phases of the pass and of the
fill, and within the shares. -/
theorem drivenOutputsAreSafe : Obligations.DrivenOutputsAreSafe := by
  unfold Obligations.DrivenOutputsAreSafe
  intro s driven
  obtain ⟨out, e⟩ | ⟨out, e⟩ | ⟨inside, e⟩ := drive_cases s
  case inr.inr =>
    have outs := driven.trans e
    refine ⟨driveInService_fillValvesSafe outs, driveInService_washPathSafe outs, ⟨?_, fun hot => ?_⟩,
      fun out => absurd inside out⟩
    · rw [outs]
      exact pumpRateOf_le s
    · rw [outs]
      exact spraySetpointOf_le hot
  all_goals
    have outs := driven.trans e
    rw [FillValvesSafe, WashPathSafe, DrawWithinShares, AtRestUnlessInService, outs]
    simp [Outputs.rest, lampsOnly]

/-- Settles O60: a fill begins by FILL's own command alone (`exec_begins_fill`), which the queue or the FILL button
brings; the line of the button leaves what the checks look at as it was. -/
theorem noFillBeginsWithoutACertificate : Obligations.NoFillBeginsWithoutACertificate := by
  unfold Obligations.NoFillBeginsWithoutACertificate
  intro s t x hstep idle begun
  have noFill : t.fill.ctx ≠ none := by simp [begun]
  cases step_cases hstep with
  | idles h => exact absurd (h ▸ idle) noFill
  | oneMs h => exact absurd (h ▸ ((passOneMs_held s).trans (conclude_held _ s)).idle idle) noFill
  | level u l v q h =>
    have unfilled : t.fill.ctx = none := by rw [h, q.rest]; exact idle
    exact absurd unfilled noFill
  | command u c q h =>
    rw [q.rest] at h
    obtain ⟨switches, rfl⟩ := exec_begins_fill h idle begun
    obtain ⟨gathering, opened, c, found, checked⟩ := exec_fill_begins h idle begun
    obtain ⟨state, requested, cert, certified, grade, fit, key, arm, probe⟩ := fillCheck_passed checked
    exact ⟨opened, gathering, c, cert, found, state, requested, certified, grade, fit, key,
      compartment?_index found ▸ arm, compartment?_index found ▸ probe⟩
  | line u l v c q isCommand h =>
    rw [q.rest] at h
    obtain ⟨switches, rfl⟩ := exec_begins_fill h idle begun
    obtain ⟨gathering, opened, c, found, checked⟩ := exec_fill_begins h idle begun
    obtain ⟨state, requested, cert, certified, grade, fit, key, arm, probe⟩ := fillCheck_passed checked
    obtain ⟨n, rfl⟩ : ∃ n, l = .button n := by
      cases l <;> cases v <;> simp_all [lineCommand]
    exact ⟨opened, gathering, c, cert, found, state, requested, certified, grade, fit, key,
      compartment?_index found ▸ arm, compartment?_index found ▸ probe⟩

end

section
/-! SUPPORT. One millisecond (log 2): what the end of its event leaves, and the debounce counts. The end of start-up
(R185): what it places and sends. -/

namespace Sys2Proof.Machine

variable {s u t : State}

/-! ## The own demand at the end of an event (R159, R161) -/

/-- A demand that differs in its age alone is formed afresh without a DEMAND placed. -/
theorem formDemand_of_sameFields (s0 : State) (same : (ownDemand u).differs (ownDemand s0) = false) :
    ∃ d, formDemand s0 u = u.setShare { u.share with own := d } := by
  unfold formDemand
  dsimp only
  split
  · exact ⟨_, if_neg (by simp [same])⟩
  · exact ⟨u.share.own, rfl⟩

/-! ## BAY_STATUS at the end of an event (R174, R175) -/

theorem refreshStatus_of_unchanged (s0 : State) (notDue : u.line.statusDue = false) (same : bayStatus u = bayStatus s0) :
    refreshStatus s0 u = u := by
  unfold refreshStatus
  rw [if_neg (by simp [notDue, same])]

/-- Where no frame can be taken from the FIFO, sending leaves the gap, and so the refresh timer, alone. -/
theorem sendNext_timer_of_noHead (h : u.line.bus = .busOff ∨ u.line.tx.isSome = true ∨ u.line.fifo = []) :
    (sendNext u).line.statusTimer = u.line.statusTimer := by
  have gap : (fillTx u).line.gap = u.line.gap := by
    unfold fillTx
    split
    next free =>
      have empty : u.line.fifo = [] := by
        rcases h with off | full | empty
        · simp [free.1] at off
        · simp [free.2] at full
        · exact empty
      unfold chooseFrame
      repeat' split
      all_goals first
        | rfl
        | simp_all
    · rfl
  unfold sendNext
  dsimp only
  rw [if_pos gap]
  exact fillTx_statusTimer u

/-- The refresh timer where nothing that BAY_STATUS carries has changed and no FIFO head can be taken. -/
theorem conclude_statusTimer_of_unchanged (s0 : State) (hin : starveInputs u = starveInputs s0)
    (notDue : u.line.statusDue = false) (same : bayStatus u = bayStatus s0)
    (differs : (ownDemand u).differs (ownDemand s0) = false)
    (h : u.line.bus = .busOff ∨ u.line.tx.isSome = true ∨ u.line.fifo = []) :
    (conclude s0 u).line.statusTimer = u.line.statusTimer := by
  obtain ⟨d, formed⟩ := formDemand_of_sameFields s0 differs
  have status := formDemand_bayStatus s0 u
  rw [formed] at status
  have unplaced := refreshStatus_of_unchanged (u := u.setShare { u.share with own := d }) s0 notDue
    (status.trans same)
  unfold conclude
  rw [lookConditions_same s0 u hin, driveOutputs_line, formed, unplaced]
  exact sendNext_timer_of_noHead (u := u.setShare { u.share with own := d }) h

/-- The share unit where the own demand has changed in its age alone. -/
theorem conclude_share_of_sameFields (s0 : State) (hin : starveInputs u = starveInputs s0)
    (differs : (ownDemand u).differs (ownDemand s0) = false) :
    (conclude s0 u).share = { u.share with own := (conclude s0 u).share.own } := by
  obtain ⟨d, formed⟩ := formDemand_of_sameFields s0 differs
  have share : (conclude s0 u).share = { u.share with own := d } := by
    have sends := (refreshStatus_sends s0 (u.setShare { u.share with own := d })).trans (sendNext_sends _)
    unfold conclude
    rw [lookConditions_same s0 u hin, formed]
    show (sendNext (refreshStatus s0 (u.setShare { u.share with own := d }))).share = _
    rw [sends.rest]
    rfl
  rw [share]

/-! ## One millisecond -/

/-- One ms changes none of the fields that BAY_STATUS carries. -/
theorem passOneMs_bayStatus (s : State) : bayStatus (passOneMs s) = bayStatus s := by
  have phases : (passOneMs s).fill.ctx.map (·.phase) = s.fill.ctx.map (·.phase) := by
    simp [passOneMs, Function.comp_def]
  have compartments : (passOneMs s).fill.ctx.map (·.compartment) = s.fill.ctx.map (·.compartment) := by
    simp [passOneMs, Function.comp_def]
  unfold bayStatus
  rw [phases, compartments]
  rfl

/-- One ms changes the age of the own demand alone. -/
theorem passOneMs_ownDemand (s : State) : (ownDemand (passOneMs s)).differs (ownDemand s) = false := by
  have same : (ownDemand (passOneMs s)) = { ownDemand s with age := (passMs s.pass).age } := rfl
  simp [same, Demand.differs]

/-- The clock of a job that runs (R34). -/
theorem jobMs_clock (s : State) : ((jobMs s).clock, (jobMs s).clockSub) =
    (if s.job.state = .opened ∨ s.job.state = .releasing then
      (if s.job.clockSub + 1 < 1000 then (s.job.clock, s.job.clockSub + 1) else (min 65535 (s.job.clock + 1), 0))
     else (s.job.clock, s.job.clockSub)) := by
  have runs : jobRuns s = true ↔ s.job.state = .opened ∨ s.job.state = .releasing := by
    unfold jobRuns
    cases s.job.state <;> simp
  simp only [jobMs, runs]
  rfl

/-- The count of a line after one ms of debouncing (R182). -/
theorem bounceMs_stepBounce {l : Line} (hl : l ∈ allLines) (p : Panel) :
    bounceMs l (stepBounce p) = if l.moved p then bounceMs l p + 1 else 0 := by
  have find (ls : List Line) : ((ls.map (fun k => ({ line := k, ms := bounceMs k p + 1 } : Bounce))).find?
      (fun b => decide (b.line = l))).map (·.ms) = if l ∈ ls then some (bounceMs l p + 1) else none := by
    induction ls with
    | nil => rfl
    | cons k ks ih =>
      by_cases same : k = l
      · subst same
        simp
      · rw [List.map_cons, List.find?_cons_of_neg (by simpa using same), ih]
        simp [Ne.symm same]
  rw [bounceMs, stepBounce, find]
  by_cases moved : l.moved p = true <;> simp [moved, hl]

end Sys2Proof.Machine
end

section
open Sys2Proof Sys2Proof.Machine

/-- Settles O3: with nothing due the event of one ms changes no starvation input, no field of BAY_STATUS and of the
own demand its age alone, so each block ends as `passOneMs` leaves it. -/
theorem emptyQueueRunsTheClock : Obligations.EmptyQueueRunsTheClock := by
  unfold Obligations.EmptyQueueRunsTheClock
  intro s empty
  have stepped : step s = idleStep s := by rw [step, empty]
  refine ⟨fun notRunning => stepped.trans (if_neg notRunning), fun running nothingDue => ?_⟩
  have taken : step s = .next (conclude s (passOneMs s)) := by
    rw [stepped, idleStep, if_pos running, idle, nothingDue]
    exact event_running passOneMs s running
  have k := conclude_same s (passOneMs s) rfl
  refine ⟨_, taken, ?job, ?clock, ?pass, ?age, k.diu, k.fill, ?share, fun notDue noHead => ?timer, ?panel,
    fun l hl => ?bounce, k.faults, k.sameModule (.refl s), k.sending rfl⟩
  case job => rw [k.job]; rfl
  case clock => rw [k.job]; exact jobMs_clock s
  case pass => rw [k.pass]; rfl
  case age => rw [k.pass]; rfl
  case share => exact conclude_share_of_sameFields s rfl (passOneMs_ownDemand s)
  case timer =>
    exact conclude_statusTimer_of_unchanged s rfl notDue (passOneMs_bayStatus s) (passOneMs_ownDemand s) noHead
  case panel => rw [k.panel]; rfl
  case bounce => rw [k.panel]; exact bounceMs_stepBounce hl { s.panel with refused := countDown s.panel.refused }

end

section
/-! SUPPORT. The end of start-up (R185): what joining the bus places, and what the end of its event sends. -/

namespace Sys2Proof.Machine

variable {s u : State}

theorem formDemand_same (s0 : State) (same : ownDemand u = ownDemand s0) : formDemand s0 u = u := by
  unfold formDemand
  rw [if_neg (by simp [same])]

/-- A DEMAND waiting goes first into an empty buffer (R176). -/
theorem sendNext_demand {d : Demand} (active : u.line.bus = .active) (empty : u.line.tx = none)
    (waits : u.line.demandBox = some d) :
    sendNext u = u.setLine { u.line with demandBox := none, tx := some (frameOf (.demand d) 0 u) } := by
  have chosen : fillTx u = u.setLine { u.line with demandBox := none, tx := some (frameOf (.demand d) 0 u) } := by
    unfold fillTx chooseFrame
    simp [active, empty, waits]
  unfold sendNext
  dsimp only
  rw [chosen]
  exact if_pos rfl

/-- The FIFO's head, when it is no JOB_REPORT, goes next, and the gap stands (R176). -/
theorem sendNext_head {n : Notice} {l : List Notice} (active : u.line.bus = .active) (empty : u.line.tx = none)
    (noDemand : u.line.demandBox = none) (noneInTx : u.line.inTx = none) (head : u.line.fifo = n :: l)
    (notReport : n.isReport = false) (composed : composeHead n u = .event n) :
    sendNext u = u.setLine { u.line with
      inTx := some { content := .event n, next := 0, total := n.frames }, tx := some (frameOf (.event n) 0 u) } := by
  have chosen : fillTx u = u.setLine { u.line with
      inTx := some { content := .event n, next := 0, total := n.frames }, tx := some (frameOf (.event n) 0 u) } := by
    unfold fillTx chooseFrame
    simp only [active, empty, noDemand, noneInTx, head, and_self, if_true, notReport, composed, startNotice,
      setLine_line, Bool.false_eq_true, if_false]
    rfl
  unfold sendNext
  dsimp only
  rw [chosen]
  exact if_pos rfl

/-! ## Joining the bus -/

/-- The module right after joining the bus: BAY_RESTARTED waits, BAY_STATUS is asked for, `d` is the DEMAND placed. -/
def joinedBus (d : Option Demand) (refresh : Option Nat) (r : StartUpRead) (s : State) : State :=
  ((startedState r s).setLine { YardLine.reset with
      fifo := [bayRestartedNotice (readConfiguration r)], demandBox := d, statusDue := true }).setShare
    { Share.reset with refresh := refresh }

theorem joinBus_inService (r : StartUpRead) (mark : (readConfiguration r).mark = .inService) :
    joinBus (startedState r s) = joinedBus (some Demand.zero) (some 1000) r s := by
  have taken : inService (askStatus (queueEvent (bayRestartedNotice (startedState r s).reader) (startedState r s))) :=
    ⟨rfl, mark⟩
  unfold joinBus
  dsimp only
  rw [if_pos taken]
  rfl

theorem joinBus_outOfService (r : StartUpRead) (mark : (readConfiguration r).mark ≠ .inService) :
    joinBus (startedState r s) = joinedBus none none r s := by
  have out : ¬ inService
      (askStatus (queueEvent (bayRestartedNotice (startedState r s).reader) (startedState r s))) := fun h => mark h.2
  unfold joinBus
  dsimp only
  rw [if_neg out]
  rfl

/-- What the start-up's event places before it sends: BAY_STATUS, its timer running. -/
theorem conclude_joined (d : Option Demand) (refresh : Option Nat) (r : StartUpRead) :
    conclude (startedState r s) (joinedBus d refresh r s)
      = driveOutputs (sendNext (placeStatus (joinedBus d refresh r s))) := by
  unfold conclude
  rw [lookConditions_same _ _ (by rfl), formDemand_same _ (by rfl), refreshStatus_of_due _ _ (by rfl)]

/-- Before any sample the bay drives READY alone (R185). -/
theorem drive_started (r : StartUpRead) (l : YardLine) (x : Option Nat) :
    drive (((startedState r s).setLine l).setShare { Share.reset with refresh := x })
      = if (readConfiguration r).mark = .inService then { Outputs.rest with ready := .lit } else Outputs.rest := by
  have rate : pumpRateOf (((startedState r s).setLine l).setShare { Share.reset with refresh := x }) = 0 := by
    unfold pumpRateOf
    split <;> rfl
  unfold drive
  rw [if_pos (by rfl)]
  by_cases mark : (readConfiguration r).mark = .inService
  · rw [if_pos mark]
    refine (if_pos mark).trans ?_
    have pass : (startedState r s).pass = Pass.idle := rfl
    have fill : (startedState r s).fill.ctx = none := rfl
    have faults : (startedState r s).faults = ⟨none, false⟩ := rfl
    have refused : (startedState r s).panel.refused = none := rfl
    simp [driveInService, rate, pass, fill, faults, refused, Outputs.rest, Pass.idle, headsOpen, outletsOpen,
      agentPumpOn, spraySetpointOf, millivolts, passLampOf, holdLampOf, faultLampOf]
  · rw [if_neg mark]
    exact (if_neg mark).trans rfl

end Sys2Proof.Machine
end

section
open Sys2Proof Sys2Proof.Machine

/-- Settles O5: the event has placed what `joinedBus` lists, and sends the DEMAND of an in-service bay, else
BAY_RESTARTED. -/
theorem endOfStartUp : Obligations.EndOfStartUp := by
  unfold Obligations.EndOfStartUp
  intro r s reading
  have taken : exec (.endOfStartUp r) s = .next (conclude (startedState r s) (joinBus (startedState r s))) :=
    congrArg Host.Outcome.next (if_pos reading)
  refine ⟨_, taken, ?_⟩
  by_cases mark : (readConfiguration r).mark = .inService
  case pos =>
    rw [joinBus_inService r mark, conclude_joined, sendNext_demand rfl rfl rfl]
    refine ⟨rfl, rfl, rfl, rfl, rfl, rfl, rfl, rfl, rfl, rfl, rfl, rfl, rfl, rfl, rfl, rfl, rfl, rfl,
      fun _ => ⟨rfl, rfl, rfl, ?_⟩, fun out => absurd mark out⟩
    exact (drive_started r _ _).trans (if_pos mark)
  case neg =>
    rw [joinBus_outOfService r mark, conclude_joined, sendNext_head rfl rfl rfl rfl rfl rfl rfl]
    refine ⟨rfl, rfl, rfl, rfl, rfl, rfl, rfl, rfl, rfl, rfl, rfl, rfl, rfl, rfl, rfl, rfl, rfl, rfl,
      fun inside => absurd inside mark, fun _ => ⟨rfl, rfl, ?_⟩⟩
    exact (drive_started r _ _).trans (if_neg mark)

end

section
/-! SUPPORT. The checks of the configuration image (R2 to R13), each by what it passes. -/

namespace Sys2Proof.Machine

/-! ## Yard parameters (R3) -/

theorem inRange_iff {lo hi n : Nat} : inRange lo hi n = true ↔ lo ≤ n ∧ n ≤ hi := by simp [inRange]

/-- The checks of the yard parameters (R3). -/
def YardPasses (y : RawYard) : Prop :=
  2000 ≤ y.capacity ∧ y.capacity ≤ 12000 ∧ y.stopMark < y.startMark ∧ y.startMark < y.resumeMark
  ∧ y.resumeMark < y.highMark ∧ y.highMark ≤ 100 ∧ 50 ≤ y.maxRate ∧ y.maxRate ≤ 600

/-- The yard parameters of an image that passes, its marks in litres (R3). -/
def yardOf (mode : AllocMode) (y : RawYard) : Yard where
  mode := mode
  capacity := y.capacity
  highMark := y.capacity * y.highMark / 100
  resumeMark := y.capacity * y.resumeMark / 100
  startMark := y.capacity * y.startMark / 100
  stopMark := y.capacity * y.stopMark / 100
  maxRate := y.maxRate

theorem checkYard_eq_some_iff {y : RawYard} {z : Yard} :
    checkYard y = some z ↔ YardPasses y ∧ ∃ mode, y.mode = some mode ∧ z = yardOf mode y := by
  unfold checkYard
  cases hmode : y.mode with
  | none => simp
  | some mode =>
    have checks : (inRange 2000 12000 y.capacity && decide (y.highMark ≤ 100) && decide (y.resumeMark ≤ 100)
        && decide (y.startMark ≤ 100) && decide (y.stopMark ≤ 100)
        && decide (y.stopMark < y.startMark) && decide (y.startMark < y.resumeMark)
        && decide (y.resumeMark < y.highMark) && inRange 50 600 y.maxRate) = true ↔ YardPasses y := by
      simp only [Bool.and_eq_true, inRange_iff, decide_eq_true_eq, YardPasses]
      omega
    simp only [checks, Option.ite_none_right_eq_some, Option.some.injEq, exists_eq_left']
    exact and_congr_right fun _ => eq_comm

theorem checkYard_isSome_iff (y : RawYard) : (checkYard y).isSome = true ↔ y.mode.isSome = true ∧ YardPasses y := by
  simp only [Option.isSome_iff_exists, checkYard_eq_some_iff]
  constructor
  · rintro ⟨_, passes, mode, hmode, _⟩
    exact ⟨⟨mode, hmode⟩, passes⟩
  · rintro ⟨⟨mode, hmode⟩, passes⟩
    exact ⟨_, passes, mode, hmode, rfl⟩

/-- Percentages in their order give litres in their order, the capacity being 2,000 L or more. -/
theorem litres_lt {capacity a b : Nat} (large : 2000 ≤ capacity) (h : a < b) :
    capacity * a / 100 < capacity * b / 100 := by
  have step : capacity * (a + 1) ≤ capacity * b := Nat.mul_le_mul_left _ h
  rw [Nat.mul_add, Nat.mul_one] at step
  omega

theorem litres_le (capacity : Nat) {a : Nat} (h : a ≤ 100) : capacity * a / 100 ≤ capacity := by
  have step : capacity * a ≤ capacity * 100 := Nat.mul_le_mul_left _ h
  omega

/-! ## The read (R2, R14) -/

/-- Nothing of an image that is not good is used. -/
theorem readConfiguration_bad {r : StartUpRead} (bad : goodImage r.memory = none) :
    (readConfiguration r).tables = none ∧ (readConfiguration r).disabled = []
    ∧ (readConfiguration r).mark = if r.straps = 0 then .badImageNodeZero else .badImage := by
  simp [readConfiguration, bad, markOf]

/-- A good image is used with its tables. -/
theorem readConfiguration_good {r : StartUpRead} {t : Tables} {l : List Nat} (good : goodImage r.memory = some (t, l)) :
    (readConfiguration r).tables = some t ∧ (readConfiguration r).disabled = l
    ∧ (readConfiguration r).mark = if r.straps = 0 then .nodeZero else .inService := by
  simp [readConfiguration, good, markOf]

/-! ## Recipes (R9 to R11) -/

/-- The range and structure checks of one stage record (R9, R10). -/
def StagePasses (g : RawStage) (kind : StageKind) (insp : Inspection) : Prop :=
  (g.temperature = 0 ∨ (30 ≤ g.temperature ∧ g.temperature ≤ 90))
  ∧ 30 ≤ g.timeLimit ∧ g.timeLimit ≤ 1800 ∧ g.dose ≤ 50 ∧ (g.dose = 0 ∨ kind = .wash)
  ∧ (kind = .finalRinse → 1 ≤ g.repeatLimit ∧ g.repeatLimit ≤ 9) ∧ (kind ≠ .finalRinse → g.repeatLimit = 1)
  ∧ (kind ≠ .dry → 50 ≤ g.volume ∧ g.volume ≤ 4000 ∧ 40 ≤ g.flow ∧ g.flow ≤ 400
      ∧ 30 ≤ g.windowMax ∧ g.windowMax ≤ 240)
  ∧ (kind = .dry → insp = .none ∧ g.volume = 0 ∧ g.temperature = 0)

/-- A stage record as the module holds it (R7). -/
def stageFrom (g : RawStage) (kind : StageKind) (insp : Inspection) : Stage where
  kind := kind
  temperature := g.temperature
  volume := g.volume
  flow := g.flow
  timeLimit := g.timeLimit
  dose := g.dose
  inspection := insp
  repeatLimit := g.repeatLimit
  windowMax := g.windowMax

theorem checkStage_eq_some_iff {g : RawStage} {x : Stage} :
    checkStage g = some x ↔ ∃ kind insp, g.kind = some kind ∧ g.inspection = some insp
      ∧ StagePasses g kind insp ∧ x = stageFrom g kind insp := by
  unfold checkStage
  cases hkind : g.kind with
  | none => simp
  | some kind =>
    cases hinsp : g.inspection with
    | none => simp
    | some insp =>
      simp only [Option.ite_none_right_eq_some, Option.some.injEq, exists_and_left, exists_eq_left']
      refine and_congr ?_ (by rw [eq_comm]; rfl)
      unfold StagePasses
      by_cases dry : kind = .dry
      · subst dry
        simp [inRange_iff]
        tauto
      · by_cases final : kind = .finalRinse
        · subst final
          simp [inRange_iff]
          tauto
        · simp [inRange_iff, dry, final]
          tauto

theorem checkStages_eq_some_iff {l : List RawStage} {xs : List Stage} :
    checkStages l = some xs ↔ List.Forall₂ (fun g x => checkStage g = some x) l xs := by
  induction l generalizing xs with
  | nil => simp [checkStages, eq_comm]
  | cons g gs ih =>
    rw [checkStages, List.forall₂_cons_left_iff]
    simp only [← ih]
    cases checkStage g <;> cases checkStages gs <;> simp [eq_comm]

/-- What the stages of a recipe that passes have been checked for, one by one. -/
theorem checkStages_getElem? {l : List RawStage} {xs : List Stage} (h : checkStages l = some xs) (k : Nat) {g : RawStage}
    {x : Stage} (hg : l[k]? = some g) (hx : xs[k]? = some x) : checkStage g = some x := by
  obtain ⟨hk, rfl⟩ := List.getElem?_eq_some_iff.mp hg
  obtain ⟨hk', rfl⟩ := List.getElem?_eq_some_iff.mp hx
  exact (List.forall₂_iff_get.mp (checkStages_eq_some_iff.mp h)).2 k hk hk'

/-- The ranges of a recipe's own fields (R9, R10). -/
def RecipeInRange (r : RawRecipe) : Prop :=
  1 ≤ r.stages.length ∧ r.stages.length ≤ 12 ∧ r.tolerance ≤ 2 ∧ 60 ≤ r.holdLimit ∧ r.holdLimit ≤ 1800
  ∧ 30 ≤ r.starveLimit ∧ r.starveLimit ≤ 600

/-- The levels of a channel that a stage names are checked (R9). -/
def LevelsPass (r : RawRecipe) : Prop :=
  ∀ ch p, (ch = .conductivity ∧ p = r.c) ∨ (ch = .turbidity ∧ p = r.t) →
    (∃ g ∈ r.stages, ∃ n, g.inspection = some n ∧ names n ch = true) →
    p.clear ≤ 20000 ∧ p.dirty ≤ 20000 ∧ p.clear < p.dirty

/-- A recipe as the module holds it (R6). -/
def recipeFrom (r : RawRecipe) (stages : List Stage) : Recipe where
  stages := stages
  tolerance := r.tolerance
  holdLimit := r.holdLimit
  starveLimit := r.starveLimit
  c := r.c
  t := r.t

theorem checkParams_iff (p : ChannelParams) :
    checkParams p = true ↔ p.clear ≤ 20000 ∧ p.dirty ≤ 20000 ∧ p.clear < p.dirty := by
  simp [checkParams, and_assoc]

/-- The stages as checked inspect what the records name (R8). -/
theorem inspects_recipeFrom {r : RawRecipe} {xs : List Stage} (h : checkStages r.stages = some xs) (ch : Channel) :
    inspects (recipeFrom r xs) ch = true ↔ ∃ g ∈ r.stages, ∃ n, g.inspection = some n ∧ names n ch = true := by
  have all := checkStages_eq_some_iff.mp h
  rw [inspects, List.any_eq_true]
  show (∃ x ∈ xs, names x.inspection ch = true) ↔ _
  clear h
  generalize r.stages = l at all
  induction all with
  | nil => simp
  | cons hx _ ih =>
    obtain ⟨kind, insp, _, hinsp, _, rfl⟩ := checkStage_eq_some_iff.mp hx
    simp [hinsp, stageFrom, ih]

theorem checkRecipe_eq_some_iff {r : RawRecipe} {x : Recipe} :
    checkRecipe r = some x ↔ ∃ xs, checkStages r.stages = some xs ∧ RecipeInRange r ∧ checkOrder xs = true
      ∧ LevelsPass r ∧ x = recipeFrom r xs := by
  unfold checkRecipe
  cases hstages : checkStages r.stages with
  | none => simp
  | some xs =>
    have length : xs.length = r.stages.length := (checkStages_eq_some_iff.mp hstages).length_eq.symm
    have levels : ((!inspects (recipeFrom r xs) .conductivity || checkParams r.c)
        && (!inspects (recipeFrom r xs) .turbidity || checkParams r.t)) = true ↔ LevelsPass r := by
      rw [Bool.and_eq_true, Bool.or_eq_true, Bool.or_eq_true, Bool.not_eq_true', Bool.not_eq_true',
        ← Bool.not_eq_true, ← Bool.not_eq_true, inspects_recipeFrom hstages, inspects_recipeFrom hstages,
        checkParams_iff, checkParams_iff]
      constructor
      · rintro ⟨hc, ht⟩ ch p (⟨rfl, rfl⟩ | ⟨rfl, rfl⟩) named
        · exact hc.resolve_left (not_not.mpr named)
        · exact ht.resolve_left (not_not.mpr named)
      · intro h
        exact ⟨imp_iff_not_or.mp (h _ _ (.inl ⟨rfl, rfl⟩)), imp_iff_not_or.mp (h _ _ (.inr ⟨rfl, rfl⟩))⟩
    have checks : (inRange 1 12 xs.length && decide (r.tolerance ≤ 2) && inRange 60 1800 r.holdLimit
        && inRange 30 600 r.starveLimit && checkOrder xs
        && (!inspects (recipeFrom r xs) .conductivity || checkParams r.c)
        && (!inspects (recipeFrom r xs) .turbidity || checkParams r.t)) = true
        ↔ RecipeInRange r ∧ checkOrder xs = true ∧ LevelsPass r := by
      rw [Bool.and_assoc, Bool.and_eq_true, levels, length]
      simp only [Bool.and_eq_true, inRange_iff, decide_eq_true_eq, RecipeInRange]
      tauto
    simp only [Option.some.injEq, exists_eq_left']
    refine Iff.trans (b := (RecipeInRange r ∧ checkOrder xs = true ∧ LevelsPass r) ∧ recipeFrom r xs = x) ?_ (by tauto)
    rw [← checks]
    exact Option.ite_none_right_eq_some.trans (and_congr_right fun _ => by rw [Option.some.injEq]; rfl)

/-- The stage records that pass every check of R9 are those whose list is checked. -/
theorem checkStages_isSome_iff (l : List RawStage) : (∃ xs, checkStages l = some xs) ↔
    ∀ g ∈ l, ∃ kind insp, g.kind = some kind ∧ g.inspection = some insp ∧ StagePasses g kind insp := by
  induction l with
  | nil => simp [checkStages]
  | cons g gs ih =>
    simp only [checkStages_eq_some_iff, List.forall₂_cons_left_iff] at ih ⊢
    rw [List.forall_mem_cons, ← ih]
    constructor
    · rintro ⟨_, x, xs, hx, hxs, _⟩
      obtain ⟨kind, insp, hk, hi, passes, _⟩ := checkStage_eq_some_iff.mp hx
      exact ⟨⟨kind, insp, hk, hi, passes⟩, xs, hxs⟩
    · rintro ⟨⟨kind, insp, hk, hi, passes⟩, xs, hxs⟩
      exact ⟨_, _, xs, checkStage_eq_some_iff.mpr ⟨kind, insp, hk, hi, passes, rfl⟩, hxs, rfl⟩

/-- The kinds of the stages as checked are those of the records. -/
theorem checkStages_allKind {l : List RawStage} {xs : List Stage}
    (all : List.Forall₂ (fun g x => checkStage g = some x) l xs) (k : StageKind) :
    (∀ x ∈ xs, x.kind = k) ↔ ∀ g ∈ l, g.kind = some k := by
  induction all with
  | nil => simp
  | cons hx _ ih =>
    obtain ⟨kind, insp, hk, _, _, rfl⟩ := checkStage_eq_some_iff.mp hx
    simp only [List.forall_mem_cons, ih, hk, Option.some.injEq, stageFrom]

/-- From the one FINAL_RINSE record on, which inspects, DRY records alone follow (R10). -/
def RawOrder (l : List RawStage) : Prop :=
  ∃ before final after, l = before ++ final :: after ∧ final.kind = some .finalRinse
    ∧ final.inspection ≠ some .none ∧ (∀ g ∈ before, g.kind ≠ some .finalRinse) ∧ (∀ g ∈ after, g.kind = some .dry)

theorem rawOrder_cons_final {g : RawStage} {gs : List RawStage} (final : g.kind = some .finalRinse) :
    RawOrder (g :: gs) ↔ g.inspection ≠ some .none ∧ ∀ x ∈ gs, x.kind = some .dry := by
  constructor
  · rintro ⟨before, f, after, hl, hf, hinsp, hbefore, hafter⟩
    cases before with
    | nil =>
      obtain ⟨rfl, rfl⟩ := List.cons.inj hl
      exact ⟨hinsp, hafter⟩
    | cons b bs => exact absurd ((List.cons.inj hl).1 ▸ final) (hbefore b List.mem_cons_self)
  · rintro ⟨hinsp, hafter⟩
    exact ⟨[], g, gs, rfl, final, hinsp, nofun, hafter⟩

theorem rawOrder_cons_other {g : RawStage} {gs : List RawStage} (notFinal : g.kind ≠ some .finalRinse) :
    RawOrder (g :: gs) ↔ RawOrder gs := by
  constructor
  · rintro ⟨before, f, after, hl, hf, hinsp, hbefore, hafter⟩
    cases before with
    | nil => exact absurd ((List.cons.inj hl).1 ▸ hf) notFinal
    | cons b bs =>
      exact ⟨bs, f, after, (List.cons.inj hl).2, hf, hinsp, (List.forall_mem_cons.mp hbefore).2, hafter⟩
  · rintro ⟨before, f, after, rfl, hf, hinsp, hbefore, hafter⟩
    exact ⟨g :: before, f, after, rfl, hf, hinsp, List.forall_mem_cons.mpr ⟨notFinal, hbefore⟩, hafter⟩

/-- The order of the stages as checked is that of the records (R10). -/
theorem checkOrder_iff {l : List RawStage} {xs : List Stage}
    (all : List.Forall₂ (fun g x => checkStage g = some x) l xs) : checkOrder xs = true ↔ RawOrder l := by
  induction all with
  | nil => simp [checkOrder, RawOrder]
  | @cons g x gs ys hx rest ih =>
    obtain ⟨kind, insp, hk, hi, _, rfl⟩ := checkStage_eq_some_iff.mp hx
    unfold checkOrder
    by_cases final : kind = .finalRinse
    · subst final
      rw [if_pos (by rfl), rawOrder_cons_final hk, hi, ← checkStages_allKind rest, Bool.and_eq_true,
        decide_eq_true_eq, List.all_eq_true]
      simp [stageFrom]
    · rw [if_neg (show ¬ (stageFrom g kind insp).kind = .finalRinse from final), rawOrder_cons_other (by simp [hk, final]), ih]

/-- A recipe passes exactly when its records do (R9, R10). -/
theorem checkRecipe_isSome_iff (r : RawRecipe) : (checkRecipe r).isSome = true ↔
    RecipeInRange r
    ∧ (∀ g ∈ r.stages, ∃ kind insp, g.kind = some kind ∧ g.inspection = some insp ∧ StagePasses g kind insp)
    ∧ RawOrder r.stages ∧ LevelsPass r := by
  simp only [Option.isSome_iff_exists, checkRecipe_eq_some_iff]
  rw [← checkStages_isSome_iff]
  constructor
  · rintro ⟨_, xs, hxs, ranges, order, levels, _⟩
    exact ⟨ranges, ⟨xs, hxs⟩, (checkOrder_iff (checkStages_eq_some_iff.mp hxs)).mp order, levels⟩
  · rintro ⟨ranges, ⟨xs, hxs⟩, order, levels⟩
    exact ⟨_, xs, hxs, ranges, (checkOrder_iff (checkStages_eq_some_iff.mp hxs)).mpr order, levels, rfl⟩

/-- The recipes disabled by check, numbered from `n` on (R11). -/
theorem mem_disabledFrom (l : List RawRecipe) (n k : Nat) : k ∈ disabledFrom n l ↔
    ∃ r, n ≤ k ∧ l[k - n]? = some r ∧ r.enabled = true ∧ checkRecipe r = none := by
  induction l generalizing n with
  | nil => simp [disabledFrom]
  | cons r rs ih =>
    have later : (∃ x, n + 1 ≤ k ∧ rs[k - (n + 1)]? = some x ∧ x.enabled = true ∧ checkRecipe x = none)
        ↔ n < k ∧ ∃ x, n ≤ k ∧ (r :: rs)[k - n]? = some x ∧ x.enabled = true ∧ checkRecipe x = none := by
      by_cases lt : n < k
      · obtain ⟨d, rfl⟩ : ∃ d, k = n + 1 + d := ⟨k - (n + 1), by omega⟩
        have shift : n + 1 + d - n = d + 1 := by omega
        have le : n ≤ n + 1 + d := by omega
        simp [shift, lt, le]
      · have notSucc : ¬ n + 1 ≤ k := lt
        simp [lt, notSucc]
    have here : k ∈ disabledFrom n (r :: rs) ↔ (k = n ∧ r.enabled = true ∧ checkRecipe r = none)
        ∨ k ∈ disabledFrom (n + 1) rs := by
      rw [disabledFrom]
      split
      next failed =>
        have failed' : r.enabled = true ∧ checkRecipe r = none := by simpa using failed
        rw [List.mem_cons]
        tauto
      next passed =>
        have : ¬ (r.enabled = true ∧ checkRecipe r = none) := by simpa using passed
        tauto
    rw [here, ih, later]
    by_cases same : k = n
    · subst same
      simp
    · have lt_iff : n < k ↔ n ≤ k := by omega
      rw [lt_iff]
      tauto

end Sys2Proof.Machine
end

section
open Sys2Proof Sys2Proof.Machine

/-- Settles O6: what is not good is not used (`readConfiguration_bad`); the marks keep their order in litres
(`litres_lt`). -/
theorem imageIsUsedOnlyWhenItPasses : Obligations.ImageIsUsedOnlyWhenItPasses := by
  unfold Obligations.ImageIsUsedOnlyWhenItPasses
  refine ⟨fun r => ⟨fun silent => ⟨?_, ?_⟩, fun bytes short => ?_, fun bytes stored fields whole => ?_, rfl⟩,
    checkYard_isSome_iff, fun y z passes => ?_⟩
  · simp [readConfiguration, silent, imageCheck]
  · exact readConfiguration_bad (by rw [silent]; rfl)
  · exact readConfiguration_bad (by rw [short]; rfl)
  · refine ⟨by simp [readConfiguration, whole, imageCheck], fun differs => ?_, fun _ fails => ?_,
      fun y matches_ passes => ?_⟩
    · exact readConfiguration_bad (by simp [whole, goodImage, differs])
    · exact readConfiguration_bad (by simp [whole, goodImage, fails])
    · exact readConfiguration_good (by simp [whole, goodImage, matches_, passes])
  · obtain ⟨⟨large, _, stopStart, startResume, resumeHigh, high, _⟩, mode, hmode, rfl⟩ :=
      checkYard_eq_some_iff.mp passes
    exact ⟨hmode.symm, rfl, rfl, rfl, rfl, rfl, rfl, litres_lt large stopStart, litres_lt large startResume,
      litres_lt large resumeHigh, litres_le _ high⟩

/-- Settles O7: each table by its check: classes by `readClass`, recipes by `checkRecipe_isSome_iff` and
`checkRecipe_eq_some_iff`, the disabled ones by `mem_disabledFrom`. -/
theorem imageEntriesByTheirChecks : Obligations.ImageEntriesByTheirChecks := by
  unfold Obligations.ImageEntriesByTheirChecks
  refine ⟨fun c => ?classes, fun r => ?passes, fun r x h => ?held, fun r => rfl, fun l n => mem_disabledFrom l 1 n,
    fun s tb last next n tables => ?map⟩
  case classes =>
    cases group : c.group <;> simp [readClass, group]
  case passes =>
    rw [checkRecipe_isSome_iff]
    simp only [RecipeInRange, StagePasses, RawOrder, LevelsPass, and_assoc]
  case held =>
    obtain ⟨xs, hxs, _, _, _, rfl⟩ := checkRecipe_eq_some_iff.mp h
    refine ⟨rfl, rfl, rfl, rfl, rfl, (checkStages_eq_some_iff.mp hxs).length_eq.symm, fun k g y hg hy => ?_⟩
    obtain ⟨kind, insp, hk, hi, _, rfl⟩ := checkStage_eq_some_iff.mp (checkStages_getElem? hxs k hg hy)
    exact ⟨hk, hi, rfl, rfl, rfl, rfl, rfl, rfl, rfl⟩
  case map =>
    have used (m : Nat) (pos : 1 ≤ m) : (recipe? s m).isSome = true ↔ ∃ x, tb.recipes[m - 1]? = some (some x) := by
      have notProbe : m ≠ 0 := by omega
      cases entry : tb.recipes[m - 1]? <;> simp [recipe?, notProbe, tables, entry, Option.isSome_iff_exists]
    unfold recipeForPair
    rw [tables]
    dsimp only
    split
    next inMap =>
      cases entry : tb.map[(last - 1) * 15 + (next - 1)]? with
      | none => simp
      | some m =>
        dsimp only
        split
        next usable =>
          simp only [Option.some.injEq]
          constructor
          · rintro rfl
            exact ⟨inMap.1, inMap.2.1, inMap.2.2.1, inMap.2.2.2, rfl, usable.1, usable.2.1,
              (used _ usable.1).mp usable.2.2⟩
          · exact fun h => h.2.2.2.2.1
        next notUsable =>
          refine ⟨nofun, ?_⟩
          rintro ⟨_, _, _, _, same, pos, small, isUsed⟩
          obtain rfl := Option.some.inj same
          exact absurd ⟨pos, small, (used _ pos).mpr isUsed⟩ notUsable
    next outside =>
      refine ⟨nofun, ?_⟩
      rintro ⟨h1, h2, h3, h4, _⟩
      exact absurd ⟨h1, h2, h3, h4⟩ outside

end

section
/-! SUPPORT. The six admission checks in their order (R45 to R50), and what the offer of a compartment leaves by their
outcome. -/

namespace Sys2Proof.Machine

variable {s t : State}

/-! ## The checks -/

/-- Check 1 (R46). -/
theorem stateCheck_eq (keyOn : Bool) (c : Compartment) : stateCheck keyOn c =
    if c.state = .barred then some .barred
    else if c.state ≠ .soiled ∧ c.state ≠ .unknown ∧ (c.state ≠ .rejected ∨ keyOn = false) then some .notSoiled
    else none := by
  cases keyOn <;> cases state : c.state <;> simp [stateCheck, state]

theorem unknownCargo_iff (c : Compartment) :
    unknownCargo c = true ↔ c.state = .unknown ∨ (c.state = .rejected ∧ c.lastClass = 0) := by
  simp [unknownCargo]

/-- What the batch decides of a compartment that has passed the first three checks (R48 to R50). -/
def batchAdmission (p : Pass) (c : Compartment) : Admission :=
  match batchCheck p c with
  | some r => .refused r
  | none => .admitted (admissionMark c) (admissionRecipe c)

/-- The checks in their order, what the batch decides last (R45). -/
theorem admission_eq (s : State) (c : Compartment) : admission s c =
    if c.state = .barred then .refused .barred
    else if c.state ≠ .soiled ∧ c.state ≠ .unknown ∧ (c.state ≠ .rejected ∨ s.panel.level.key = false) then
      .refused .notSoiled
    else if c.keyed = true ∧ s.panel.level.key = false then .skipped
    else if lineOn s.panel.level.head c.index = false then .refused .headNotSeated
    else batchAdmission s.pass c := by
  have key : (c.keyed && !keyIsOn s) = true ↔ c.keyed = true ∧ s.panel.level.key = false := by simp [keyIsOn]
  have head : (!headOn s c.index) = true ↔ lineOn s.panel.level.head c.index = false := by simp [headOn]
  have first := stateCheck_eq (keyIsOn s) c
  unfold admission
  by_cases barred : c.state = .barred
  · rw [first, if_pos barred, if_pos barred]
  rw [if_neg barred] at first ⊢
  by_cases notSoiled : c.state ≠ .soiled ∧ c.state ≠ .unknown ∧ (c.state ≠ .rejected ∨ s.panel.level.key = false)
  · rw [if_pos notSoiled, first]
    exact if_pos notSoiled ▸ rfl
  rw [if_neg notSoiled, first, show (if c.state ≠ .soiled ∧ c.state ≠ .unknown
    ∧ (c.state ≠ .rejected ∨ keyIsOn s = false) then some Reason.notSoiled else none) = none from if_neg notSoiled]
  simp only [key, head]
  rfl

/-- An empty batch admits whatever passes the first three checks (R48, R49). -/
theorem batchCheck_of_empty {p : Pass} (c : Compartment) (empty : p.batch = []) : batchCheck p c = none := by
  simp [batchCheck, empty]

/-- Checks 4 to 6 against a batch that is not empty (R48, R49). -/
theorem batchCheck_of_members {p : Pass} (c : Compartment) (members : p.batch ≠ []) : batchCheck p c =
    if p.probe = true ∨ c.state = .unknown ∨ (c.state = .rejected ∧ c.lastClass = 0) then some .probeAlone
    else if c.recipe ≠ p.batchRecipe then some .recipeDiffers
    else if 4 ≤ p.batch.length then some .batchFull
    else none := by
  unfold batchCheck
  rw [if_neg members]
  have unknown := unknownCargo_iff c
  split_ifs <;> first | rfl | (exfalso; simp_all; try omega)

/-! ## The offer, by the outcome of the checks -/

section
variable {i : Nat} {c : Compartment} (found : compartment? s i = some c)
include found

theorem offer_admitted {mark : KeyMark} {recipe : Nat} (h : admission s c = .admitted mark recipe) :
    offer i s = joinBatch c mark recipe s ∧ wouldJoin i s = true := by
  simp [offer, wouldJoin, found, h]

theorem offer_skipped (h : admission s c = .skipped) : offer i s = skipKeyed s ∧ wouldJoin i s = false := by
  simp [offer, wouldJoin, found, h]

theorem offer_refused {r : Reason} (h : admission s c = .refused r) :
    offer i s = refuse r s ∧ wouldJoin i s = false := by
  simp [offer, wouldJoin, found, h]

end

end Sys2Proof.Machine
end

section
/-! SUPPORT. The returns of a batch (R29, R32, R54): what each changes and leaves, and what the close check after it
can do. -/

namespace Sys2Proof.Machine

variable {s t u : State}

/-! ## Returns -/

/-- `t` has come from `s` by requests of the pass engine and close checks: the table, the job's state, the pass and the
yard line interface have changed alone, the job at most from OPEN to CLOSED. -/
structure Returned (s t : State) : Prop where
  rest : t = { s with
    job := { s.job with table := t.job.table, state := t.job.state }, pass := t.pass, line := t.line }
  bus : t.line.bus = s.line.bus
  jobState : t.job.state = s.job.state ∨ (s.job.state = .opened ∧ t.job.state = .closed)

theorem Returned.refl (s : State) : Returned s s := ⟨rfl, rfl, .inl rfl⟩

theorem Returned.trans (h : Returned s t) (k : Returned t u) : Returned s u where
  rest := by rw [k.rest, h.rest]
  bus := k.bus.trans h.bus
  jobState := by
    obtain same | ⟨opened, closed⟩ := h.jobState
    · rw [← same]
      exact k.jobState
    · obtain same | ⟨opened', _⟩ := k.jobState
      · exact .inr ⟨opened, same.trans closed⟩
      · simp [closed] at opened'

theorem setPass_returned (s : State) (p : Pass) : Returned s (s.setPass p) := ⟨rfl, rfl, .inl rfl⟩

theorem updCompartment_returned (s : State) (i : Nat) (f : Compartment → Compartment) :
    Returned s (updCompartment i f s) := ⟨rfl, rfl, .inl rfl⟩

theorem queueEvent_returned (n : Notice) (s : State) : Returned s (queueEvent n s) := by
  unfold queueEvent
  split <;> exact ⟨rfl, rfl, .inl rfl⟩

theorem closeCheck_returned (s : State) : Returned s (closeCheck s) := by
  unfold closeCheck
  dsimp only
  split
  next complete =>
    have closed : Returned s ((queueEvent (.jobReport (jobNumber s) .complete) s).setJob
        { (queueEvent (.jobReport (jobNumber s) .complete) s).job with state := .closed }) := by
      obtain ⟨rest, bus, _⟩ := queueEvent_returned (.jobReport (jobNumber s) .complete) s
      exact ⟨by rw [rest]; rfl, bus, .inr ⟨complete.1, rfl⟩⟩
    split
    · exact closed.trans (setPass_returned _ _)
    · exact closed
  · exact Returned.refl s

theorem requestReturnChecked_returned (b : BatchMember) (s : State) : Returned s (requestReturnChecked b s) :=
  (updCompartment_returned s _ _).trans (closeCheck_returned _)

theorem foldl_returned {α : Type} (f : State → α → State) (hf : ∀ t a, Returned t (f t a)) (l : List α) (s : State) :
    Returned s (l.foldl f s) := by
  induction l generalizing s with
  | nil => exact Returned.refl s
  | cons a l ih => exact (hf s a).trans (ih _)

theorem cancelBatch_returned (s : State) : Returned s (cancelBatch s) :=
  ((setPass_returned s _).trans (foldl_returned _ (fun t b => requestReturnChecked_returned b t) _ _)).trans
    (setPass_returned _ _)

/-! ## The table -/

theorem closeCheck_table (s : State) : (closeCheck s).job.table = s.job.table := by
  unfold closeCheck
  dsimp only
  split
  · split <;> simp
  · rfl

/-- The table with the record of a batch member as it was before admission (R29, R54). -/
def returnedTable (b : BatchMember) (table : List Compartment) : List Compartment :=
  table.map (fun x => if x.index = b.index then { x with state := b.prior, keyMark := .none } else x)

theorem requestReturnChecked_table (b : BatchMember) (s : State) :
    (requestReturnChecked b s).job.table = returnedTable b s.job.table := closeCheck_table _

theorem requestReturnsChecked_table (l : List BatchMember) (s : State) :
    (l.foldl (fun s b => requestReturnChecked b s) s).job.table
      = l.foldl (fun table b => returnedTable b table) s.job.table := by
  induction l generalizing s with
  | nil => rfl
  | cons b l ih => exact (ih _).trans (by rw [requestReturnChecked_table]; rfl)

theorem cancelBatch_table (s : State) :
    (cancelBatch s).job.table = s.pass.batch.foldl (fun table b => returnedTable b table) s.job.table :=
  requestReturnsChecked_table s.pass.batch _

/-! ## What `Returned` leaves, to the end of the event -/

/-- Requests and close checks that lead to a phase other than SPRAY and STARVED, with what the panel has taken first. -/
theorem Returned.sameModule (h : Returned s t) : SameModule s t := by
  rw [h.rest]
  exact ⟨rfl, rfl, rfl, rfl⟩

theorem Returned.share (h : Returned s t) : t.share = s.share := by rw [h.rest]

theorem Returned.diuFillFaults (h : Returned s t) : t.diu = s.diu ∧ t.fill = s.fill ∧ t.faults = s.faults := by
  rw [h.rest]
  exact ⟨rfl, rfl, rfl⟩

theorem Returned.panel (h : Returned s t) : t.panel = s.panel := by rw [h.rest]

theorem Returned.counters (h : Returned s t) : t.job.passCounter = s.job.passCounter
    ∧ (t.job.supplyTally, t.job.agentTally, t.job.effluentTally, t.job.productTally)
      = (s.job.supplyTally, s.job.agentTally, s.job.effluentTally, s.job.productTally) := by
  rw [h.rest]
  exact ⟨rfl, rfl⟩

/-! ## What a press leaves alone -/

/-- `t` has come from `s` by a press that begins no fill and ends no job: the job unit, the pass and the panel have
changed alone, and a BAY_STATUS refresh has been asked for or not. -/
structure Pressed (s t : State) : Prop where
  rest : t = { s with job := t.job, pass := t.pass, panel := t.panel,
                      line := { s.line with statusDue := t.line.statusDue } }

/-- A press to the end of its event. -/
theorem Pressed.frame (h : Pressed s u) (k : Concluded u t) :
    SameModule s t ∧ SameDiuFillFaults s t ∧ SameShare s t ∧ Sending s.line.fifo s t := by
  have fifo : u.line.fifo = s.line.fifo := by rw [h.rest]
  refine ⟨k.sameModule ?_, k.sameDiuFillFaults ?_ ?_ ?_, k.sameShare ?_, fifo ▸ k.sending ?_⟩
  all_goals rw [h.rest]
  exact .refl s

/-- What a cancelled batch leaves at the end of its event, the panel having taken the switches of a press or not. -/
theorem cancelBatch_ends {s u : State} (taken : ∃ p, u = s.setPanel p ∧ p.refused = s.panel.refused
      ∧ p.lastRefusal = s.panel.lastRefusal) (opened : s.job.state = .opened) :
    let t := conclude s (cancelBatch u)
    t.pass = Pass.idle
    ∧ t.job.table = s.pass.batch.foldl (fun table b => returnedTable b table) s.job.table
    ∧ t.job.passCounter = s.job.passCounter ∧ (t.job.state = .opened ∨ t.job.state = .closed)
    ∧ (t.job.supplyTally, t.job.agentTally, t.job.effluentTally, t.job.productTally)
        = (s.job.supplyTally, s.job.agentTally, s.job.effluentTally, s.job.productTally)
    ∧ t.panel.refused = s.panel.refused ∧ t.panel.lastRefusal = s.panel.lastRefusal
    ∧ SameModule s t ∧ SameDiuFillFaults s t ∧ SameShare s t := by
  obtain ⟨p, rfl, refused, lastRefusal⟩ := taken
  have r := cancelBatch_returned (s.setPanel p)
  have k : Concluded (cancelBatch (s.setPanel p)) (conclude s (cancelBatch (s.setPanel p))) :=
    conclude_phase s _ (by simp [Pass.idle]) (by simp [Pass.idle])
  obtain ⟨diu, fill, faults⟩ := r.diuFillFaults
  refine ⟨k.pass, ?_, ?_, ?_, ?_, ?_, ?_, k.sameModule r.sameModule, k.sameDiuFillFaults diu fill faults,
    k.sameShare r.share⟩
  · rw [k.job]
    exact cancelBatch_table _
  · rw [k.job]
    exact r.counters.1
  · rw [k.job]
    exact r.jobState.imp (·.trans opened) (·.2)
  · rw [k.job]
    exact r.counters.2
  · rw [k.panel, r.panel]
    exact refused
  · rw [k.panel, r.panel]
    exact lastRefusal

end Sys2Proof.Machine
end

section
open Sys2Proof Sys2Proof.Machine

/-- Settles O13: each of the buttons comes to `cancelBatch`. -/
theorem buttonsThatCancelABatch : Obligations.ButtonsThatCancelABatch := by
  unfold Obligations.ButtonsThatCancelABatch
  intro c switches s running gathering opened button
  have pressed := cancelBatch_ends (s := s) (u := takeSwitches switches s) ⟨_, rfl, rfl, rfl⟩ opened
  have unpressed := cancelBatch_ends (s := s) (u := s) ⟨s.panel, rfl, rfl, rfl⟩ opened
  have pressedTaken {f : State → State} (h : f s = cancelBatch (takeSwitches switches s)) :
      event f s = .next (conclude s (cancelBatch (takeSwitches switches s))) := by
    rw [event_running f s running, h]
  have unpressedTaken {f : State → State} (h : f s = cancelBatch s) :
      event f s = .next (conclude s (cancelBatch s)) := by
    rw [event_running f s running, h]
  rcases button with rfl | rfl | rfl | rfl | ⟨rfl, empty⟩
  · refine ⟨_, ?_, pressed⟩
    unfold exec execStart
    exact pressedTaken (takeStart_cancels _ opened gathering)
  · refine ⟨_, ?_, unpressed⟩
    unfold exec execResume
    exact unpressedTaken (by simp [takeResume, gathering])
  · refine ⟨_, ?_, pressed⟩
    unfold exec execFill
    exact pressedTaken (if_pos gathering)
  · refine ⟨_, ?_, pressed⟩
    unfold exec execAbandon
    exact pressedTaken (if_pos gathering)
  · refine ⟨_, ?_, unpressed⟩
    unfold exec execHold
    exact unpressedTaken (by simp [takeHold, gathering, empty])

/-- Settles O12: with an empty batch the checks after the head's pass, so the offer does what `admission_eq` says. -/
theorem startExaminesACompartment : Obligations.StartExaminesACompartment := by
  unfold Obligations.StartExaminesACompartment
  intro switches s i c running opened inNone below sel found
  let u := enterGathering (takeSwitches switches s)
  have effect : takeStart (selection switches s) (takeSwitches switches s) = offer i u := by
    rw [sel]
    exact takeStart_opens _ opened inNone (not_le.mpr below) (by simp) (by simp)
  have taken := exec_start_running switches s running
  rw [effect] at taken
  have index : c.index = i := compartment?_index found
  have last : batchAdmission u.pass c = .admitted (admissionMark c) (admissionRecipe c) := by
    rw [batchAdmission, batchCheck_of_empty c rfl]
  have checks : admission u c =
      if c.state = .barred then .refused .barred
      else if c.state ≠ .soiled ∧ c.state ≠ .unknown ∧ (c.state ≠ .rejected ∨ s.panel.level.key = false) then
        .refused .notSoiled
      else if c.keyed = true ∧ s.panel.level.key = false then .skipped
      else if lineOn s.panel.level.head i = false then .refused .headNotSeated
      else .admitted (admissionMark c) (admissionRecipe c) := by
    have h := admission_eq u c
    rw [last, index] at h
    exact h
  have found' : compartment? u i = some c := found
  have ends {v : State} (phase : v.pass.phase = .gathering) : Concluded v (conclude s v) :=
    conclude_phase s v (by simp [phase]) (by simp [phase])
  have refused {r : Reason} (h : admission u c = .refused r) :
      let t := conclude s (offer i u)
      t.pass.phase = .gathering ∧ t.pass.window = some 30000 ∧ SameModule s t ∧ SameDiuFillFaults s t
      ∧ SameShare s t ∧ Sending s.line.fifo s t
      ∧ t.pass.batch = [] ∧ t.job = s.job ∧ t.panel.lastRefusal = r ∧ t.panel.refused = some 2000 := by
    rw [(offer_refused found' h).1]
    have k := ends (v := refuse r u) rfl
    obtain ⟨module, blocks, share, line⟩ := Pressed.frame (s := s) ⟨rfl⟩ k
    dsimp only
    rw [k.pass, k.panel]
    exact ⟨rfl, rfl, module, blocks, share, line, rfl, k.job, rfl, rfl⟩
  refine ⟨_, taken, ?_⟩
  by_cases barred : c.state = .barred
  · rw [if_pos barred] at checks ⊢
    exact refused checks
  rw [if_neg barred] at checks ⊢
  by_cases notSoiled : c.state ≠ .soiled ∧ c.state ≠ .unknown ∧ (c.state ≠ .rejected ∨ s.panel.level.key = false)
  · rw [if_pos notSoiled] at checks ⊢
    exact refused checks
  rw [if_neg notSoiled] at checks ⊢
  by_cases key : c.keyed = true ∧ s.panel.level.key = false
  · rw [if_pos key] at checks ⊢
    rw [(offer_skipped found' checks).1]
    have k := ends (v := skipKeyed u) rfl
    obtain ⟨module, blocks, share, line⟩ := Pressed.frame (s := s) ⟨rfl⟩ k
    rw [k.pass, k.panel]
    exact ⟨rfl, rfl, module, blocks, share, line, rfl, k.job, rfl, rfl⟩
  rw [if_neg key] at checks ⊢
  by_cases head : lineOn s.panel.level.head i = false
  · rw [if_pos head] at checks ⊢
    exact refused checks
  rw [if_neg head] at checks ⊢
  rw [(offer_admitted found' checks).1]
  have k := ends (v := joinBatch c (admissionMark c) (admissionRecipe c) u) rfl
  obtain ⟨module, blocks, share, line⟩ := Pressed.frame (s := s) ⟨rfl⟩ k
  rw [k.pass, k.panel, k.job, ← index]
  refine ⟨rfl, rfl, module, blocks, share, line, rfl, ?_, rfl, rfl, rfl⟩
  simp only [joinBatch, requestAdmission, updCompartment, admissionRecipe, unknownCargo_iff, setJob_pass, setPass_pass]
  rfl

/-- Settles O14: each outcome of the checks is an offer's (`offer_admitted`, `offer_skipped`, `offer_refused`), and none
touches the starvation inputs. -/
theorem addByItsChecks : Obligations.AddByItsChecks := by
  unfold Obligations.AddByItsChecks
  refine ⟨fun switches s running => ?_, fun s c members => ?_⟩
  · let u := takeSwitches switches s
    have taken : exec (.add switches) s = .next (conclude s (takeAdd (selection switches s) u)) := by
      unfold exec execAdd
      exact event_running _ s running
    refine ⟨_, taken, ?_⟩
    by_cases gathering : s.pass.phase = .gathering
    case neg =>
      have refused : takeAdd (selection switches s) u = refuse .notGathering u := if_pos gathering
      have r := refuse_takeSwitches_concluded .notGathering switches s running
      rw [refused]
      obtain ⟨module, blocks, share, line⟩ := Pressed.frame (s := s) (u := refuse .notGathering u) ⟨rfl⟩
        (conclude_same s _ rfl)
      exact ⟨module, blocks, share, line, fun _ => r, fun h => absurd h gathering, fun _ _ h => absurd h gathering⟩
    case pos =>
    by_cases one : (selection switches s).length = 1
    case neg =>
      have refused : takeAdd (selection switches s) u = refuse .selectOne u := by
        unfold takeAdd
        rw [if_neg (show ¬ u.pass.phase ≠ .gathering from not_not.mpr gathering)]
        split
        · simp_all
        · rfl
      have r := refuse_takeSwitches_concluded .selectOne switches s running
      rw [refused]
      obtain ⟨module, blocks, share, line⟩ := Pressed.frame (s := s) (u := refuse .selectOne u) ⟨rfl⟩
        (conclude_same s _ rfl)
      exact ⟨module, blocks, share, line, fun h => absurd gathering h, fun _ _ => r,
        fun _ _ _ h => absurd (by simp [h]) one⟩
    case pos =>
    obtain ⟨i, sel⟩ := List.length_eq_one_iff.mp one
    have offered : takeAdd (selection switches s) u
        = if wouldJoin i u = true then restartWindow (offer i u) else offer i u := by
      rw [sel]
      exact if_neg (not_not.mpr gathering)
    have others {P : Nat → Compartment → Prop} (h : ∀ c, compartment? s i = some c → P i c) :
        ∀ j c, s.pass.phase = .gathering → selection switches s = [j] → compartment? s j = some c → P j c := by
      intro j c _ sel' found
      obtain rfl : i = j := by simpa [sel] using sel'
      exact h c found
    rw [offered]
    cases found : compartment? s i with
    | none =>
      have same : (if wouldJoin i u = true then restartWindow (offer i u) else offer i u) = u := by
        have found' : compartment? u i = none := found
        simp [wouldJoin, offer, found']
      rw [same]
      obtain ⟨module, blocks, share, line⟩ := Pressed.frame (s := s) (u := u) ⟨rfl⟩ (conclude_same s u rfl)
      exact ⟨module, blocks, share, line, fun h => absurd gathering h, fun _ h => absurd one h,
        others fun c h => by simp [found] at h⟩
    | some c =>
    have found' : compartment? u i = some c := found
    have index : c.index = i := compartment?_index found
    have only {P : Nat → Compartment → Prop} (h : P i c) :
        ∀ j c, s.pass.phase = .gathering → selection switches s = [j] → compartment? s j = some c → P j c :=
      others fun x hx => by
        obtain rfl : c = x := by simpa [found] using hx
        exact h
    cases checked : admission s c with
    | admitted mark recipe =>
      obtain ⟨joins, would⟩ := offer_admitted found' checked
      rw [if_pos would, joins]
      have k := conclude_same s (restartWindow (joinBatch c mark recipe u)) rfl
      obtain ⟨module, blocks, share, line⟩ := Pressed.frame (s := s) ⟨rfl⟩ k
      refine ⟨module, blocks, share, line, fun h => absurd gathering h, fun _ h => absurd one h, only ?_⟩
      rw [checked]
      refine ⟨fun m r h => ?_, nofun, nofun⟩
      obtain ⟨rfl, rfl⟩ := Admission.admitted.inj h
      rw [k.pass, k.job, k.panel, ← index]
      exact ⟨rfl, rfl, rfl, rfl⟩
    | skipped =>
      obtain ⟨skips, would⟩ := offer_skipped found' checked
      rw [if_neg (by simp [would]), skips]
      have k := conclude_same s (skipKeyed u) rfl
      obtain ⟨module, blocks, share, line⟩ := Pressed.frame (s := s) ⟨rfl⟩ k
      refine ⟨module, blocks, share, line, fun h => absurd gathering h, fun _ h => absurd one h, only ?_⟩
      rw [checked]
      refine ⟨nofun, nofun, fun _ => ?_⟩
      rw [k.panel]
      exact ⟨k.pass, k.job, rfl, rfl⟩
    | refused r =>
      obtain ⟨refuses, would⟩ := offer_refused found' checked
      rw [if_neg (by simp [would]), refuses]
      have k := conclude_same s (refuse r u) rfl
      obtain ⟨module, blocks, share, line⟩ := Pressed.frame (s := s) ⟨rfl⟩ k
      refine ⟨module, blocks, share, line, fun h => absurd gathering h, fun _ h => absurd one h, only ?_⟩
      rw [checked]
      refine ⟨nofun, fun r' h => ?_, nofun⟩
      obtain rfl := Admission.refused.inj h
      rw [k.panel]
      exact ⟨k.pass, k.job, rfl, rfl⟩
  · rw [admission_eq, batchAdmission, batchCheck_of_members c members]
    by_cases alone : s.pass.probe = true ∨ c.state = .unknown ∨ (c.state = .rejected ∧ c.lastClass = 0)
    · simp only [if_pos alone]
    · have known : admissionRecipe c = c.recipe.getD 0 :=
        if_neg (fun h => alone (.inr ((unknownCargo_iff c).mp h)))
      simp only [if_neg alone, known, admissionMark]
      split_ifs <;> rfl

end

section
/-! SUPPORT. HOLD (R82 to R86): the run-down toward HELD and the formation into HELD. -/

namespace Sys2Proof.Machine

variable {s t u : State}

/-! ## The run-down toward HELD -/

/-- A run-down toward HELD changes the pass alone: it ends at its entry with the pump-stopped line on (R83). -/
theorem runDownToHeld_eq (fromSpray : Bool) (s : State) : runDownToHeld fromSpray s = s.setPass
    (if s.panel.level.pumpStopped then (enterHeld (enterRunDown .held fromSpray s)).pass
     else (enterRunDown .held fromSpray s).pass) := by
  unfold runDownToHeld
  dsimp only
  split
  next on =>
    have on' : s.panel.level.pumpStopped = true := on
    rw [if_pos on']
    rfl
  next off =>
    have off' : ¬ s.panel.level.pumpStopped = true := off
    rw [if_neg off']
    rfl

/-- FLUSH, SPRAY and DRY are left with their remainders (R82, R83). -/
theorem holdAt_pass (r : ResumePoint) (fromSpray : Bool) (s : State) :
    let p := (holdAt r fromSpray s).pass
    p.resumeAt = some r ∧ p.flushLeft = s.pass.flushLeft ∧ p.spray = s.pass.spray
    ∧ p.dryLeft = s.pass.dryLeft ∧ p.members = s.pass.members ∧ p.stage = s.pass.stage
    ∧ (s.panel.level.pumpStopped = false →
        p.phase = .runDown ∧ p.dest = some .held ∧ p.runDown = some 5000)
    ∧ (s.panel.level.pumpStopped = true →
        p.phase = .held ∧ p.holdTimer = some ((recipeOf s.pass).holdLimit * 1000)) := by
  unfold holdAt
  rw [runDownToHeld_eq]
  cases stopped : s.panel.level.pumpStopped
  · simp [stopped, enterRunDown, Config.runDownLimit]
  · simp [stopped, enterRunDown, enterHeld, recipeOf]

theorem holdAt_eq (r : ResumePoint) (fromSpray : Bool) (s : State) :
    holdAt r fromSpray s = s.setPass (holdAt r fromSpray s).pass := by
  unfold holdAt
  rw [runDownToHeld_eq]
  rfl

/-- A HOLD at a phase that runs leads to a phase that does not spray. -/
theorem holdAt_phase (r : ResumePoint) (fromSpray : Bool) (s : State) :
    (holdAt r fromSpray s).pass.phase = .runDown ∨ (holdAt r fromSpray s).pass.phase = .held := by
  have h := holdAt_pass r fromSpray s
  cases stopped : s.panel.level.pumpStopped
  · exact .inl (h.2.2.2.2.2.2.1 stopped).1
  · exact .inr (h.2.2.2.2.2.2.2 stopped).1

/-- HOLD of a formed pass, and in NONE, changes the pass alone, and leaves no SPRAY and no STARVED. -/
theorem takeHold_eq (notGathering : s.pass.phase ≠ .gathering) : ∃ p, takeHold s = s.setPass p
    ∧ p.phase ≠ .spray ∧ p.phase ≠ .starved := by
  have held (r : ResumePoint) (b : Bool) : ∃ p, holdAt r b s = s.setPass p ∧ p.phase ≠ .spray ∧ p.phase ≠ .starved := by
    refine ⟨_, holdAt_eq r b s, ?_⟩
    rcases holdAt_phase r b s with e | e <;> simp [e]
  unfold takeHold
  split
  case h_2 h => exact absurd h notGathering
  case h_3 | h_4 | h_5 => exact held _ _
  case h_6 h => exact ⟨_, rfl, by simp [h], by simp [h]⟩
  case h_7 h =>
    unfold holdInRunDown pendHold
    split <;> exact ⟨_, rfl, by simp [h], by simp [h]⟩
  case h_8 => exact ⟨_, rfl, by simp, by simp⟩
  all_goals exact ⟨s.pass, rfl, by simp_all, by simp_all⟩

/-! ## The formation of a batch into HELD (R53, R59) -/

/-- The batch formed into HELD: the counter risen, the members WASHING, the pass as formed with its hold timer. -/
theorem formIntoHeld_eq (s : State) : formIntoHeld s =
    ((s.setJob { s.job with
        passCounter := s.job.passCounter + 1, table := washingTable s.pass.batch s.job.table }).setDiu
      { s.diu with
        histories := (formedPass s).members.map (fun m => { index := m.index, c := [], t := [] }) }).setPass
      { formedPass s with
        phase := .held, resumeAt := some .next, nextStep := some .firstStage
        holdTimer := some ((recipeOf (formedPass s)).holdLimit * 1000) } := by
  unfold formIntoHeld
  rw [formPass_eq]
  rfl


/-- Every compartment of the batch is WASHING, whatever was listed before. -/
theorem washingTable_washing {l : List BatchMember} {table : List Compartment} {x : Compartment}
    (hx : x ∈ washingTable l table) (h : ∃ b ∈ l, b.index = x.index) : x.state = .washing := by
  have keeps (l : List BatchMember) (table : List Compartment) (i : Nat)
      (all : ∀ x ∈ table, x.index = i → x.state = .washing) :
      ∀ x ∈ washingTable l table, x.index = i → x.state = .washing := by
    induction l generalizing table with
    | nil => exact all
    | cons b l ih =>
      refine ih _ (fun x hx hi => ?_)
      obtain ⟨y, hy, rfl⟩ := List.mem_map.mp hx
      split
      next => rfl
      next other =>
        rw [if_neg other] at hi
        exact all y hy hi
  induction l generalizing table with
  | nil => simp at h
  | cons b l ih =>
    obtain ⟨b', hb', hi⟩ := h
    obtain rfl | later := List.mem_cons.mp hb'
    · refine keeps l _ b'.index (fun y hy hiy => ?_) x hx hi.symm
      obtain ⟨z, _, rfl⟩ := List.mem_map.mp hy
      split
      next => rfl
      next other =>
        rw [if_neg other] at hiy
        exact absurd hiy other
    · exact ih hx ⟨b', later, hi⟩

end Sys2Proof.Machine
end

section
open Sys2Proof Sys2Proof.Machine

/-- Settles O15: HOLD of a formed pass changes the pass alone (`takeHold_eq`), by phase as `holdAt_pass` says; a batch
is formed as `formPass_eq` says and held. -/
theorem holdByPhase : Obligations.HoldByPhase := by
  unfold Obligations.HoldByPhase
  refine ⟨fun s running notGathering => ?_, fun s running gathering members => ?_⟩
  · have taken : exec .hold s = .next (conclude s (takeHold s)) := by
      unfold exec execHold
      exact event_running _ s running
    obtain ⟨p, effect, notSpray, notStarved⟩ := takeHold_eq notGathering
    have k : Concluded (s.setPass p) (conclude s (s.setPass p)) := conclude_phase s _ notSpray notStarved
    have pass : (conclude s (takeHold s)).pass = (takeHold s).pass := by rw [effect]; exact k.pass
    refine ⟨_, taken, ?_⟩
    rw [pass]
    rw [effect]
    refine ⟨k.sameModule (.refl s), k.job, k.sameDiuFillFaults rfl rfl rfl, k.panel, k.sameShare rfl, k.sending rfl, ?_⟩
    rw [← effect]
    refine ⟨?_, ?_, fun runDown dest => ?_, fun starved => ?_, ?_⟩
    · rintro r (⟨phase, rfl⟩ | ⟨phase, rfl⟩ | ⟨phase, rfl⟩) <;> simp only [takeHold, phase]
      · exact holdAt_pass _ _ s
      · exact holdAt_pass _ _ s
      · exact holdAt_pass _ _ s
    · rintro (phase | ⟨phase, dest⟩)
      · simp [takeHold, phase, pendHold]
      · simp [takeHold, phase, holdInRunDown, dest, pendHold]
    · simp [takeHold, runDown, holdInRunDown, dest]
    · simp [takeHold, starved, enterHeld, recipeOf]
    · rintro (phase | phase | phase | ⟨phase, dest | dest⟩)
      · simp [takeHold, phase]
      · simp [takeHold, phase]
      · simp [takeHold, phase]
      · simp [takeHold, phase, holdInRunDown, dest]
      · simp [takeHold, phase, holdInRunDown, dest]
  · have effect : takeHold s = formIntoHeld s := by simp [takeHold, gathering, members]
    have taken : exec .hold s = .next (conclude s (formIntoHeld s)) := by
      unfold exec execHold
      rw [event_running _ s running, effect]
    rw [formIntoHeld_eq] at taken
    have k := conclude_phase s (((s.setJob { s.job with
        passCounter := s.job.passCounter + 1, table := washingTable s.pass.batch s.job.table }).setDiu
      { s.diu with
        histories := (formedPass s).members.map (fun m => { index := m.index, c := [], t := [] }) }).setPass
      { formedPass s with
        phase := .held, resumeAt := some .next, nextStep := some .firstStage
        holdTimer := some ((recipeOf (formedPass s)).holdLimit * 1000) }) (by simp) (by simp)
    refine ⟨_, taken, ?_⟩
    rw [k.pass, k.job, k.diu]
    refine ⟨rfl, rfl, rfl, rfl, rfl, rfl, rfl, rfl, rfl, rfl, rfl, rfl, rfl, rfl, rfl, ?_, fun m hm => ?_,
      fun x hx b hb index => washingTable_washing hx ⟨b, hb, index⟩, ?_,
      k.sameModule (.refl s), k.fill, k.faults, k.panel, k.sameShare rfl, k.sending rfl⟩
    · simp [formedPass, formMember, Function.comp_def]
    · obtain ⟨b, _, rfl⟩ := List.mem_map.mp hm
      exact ⟨rfl, rfl, rfl, rfl⟩
    · simp [formedPass]

end

section
/-! SUPPORT. FILL and the stops of a fill (R141 to R151). -/

namespace Sys2Proof.Machine

variable {s t u : State}

/-! ## The switches of a press (R41, log 4) -/

/-- What the panel takes of a press is what `SwitchesTaken` says. -/
theorem takeSwitches_taken (switches : Lines8) (h : t.panel = (takeSwitches switches s).panel) :
    SwitchesTaken switches s t := by
  have kept (moved : Lines8) : (fun b : Bounce => !b.line.selectIn moved)
      = (fun b => match b.line with
        | .select i => !lineOn moved i
        | _ => true) := by
    funext b
    cases b.line <;> rfl
  rw [SwitchesTaken, h]
  simp only [takeSwitches, kept, switchesMoved, setPanel_panel] <;> rfl

/-! ## The checks of FILL (R141) -/

/-- FILL outside GATHERING is checked. -/
theorem exec_fill_running (switches : Lines8) (running : s.power = .running) (notGathering : s.pass.phase ≠ .gathering) :
    exec (.fill switches) s = .next (conclude s (takeFill (selection switches s) (takeSwitches switches s))) := by
  have effect : takeFillPress (selection switches s) (takeSwitches switches s)
      = takeFill (selection switches s) (takeSwitches switches s) := if_neg notGathering
  rw [← effect]
  unfold exec execFill
  exact event_running _ s running

/-- FILL of the one compartment selected, by its own checks. -/
theorem takeFill_checked {i : Nat} {c : Compartment} (opened : s.job.state = .opened) (idle : s.fill.ctx.isSome ≠ true)
    (found : compartment? s i = some c) : takeFill [i] s = match fillCheck s c with
      | some r => refuse r s
      | none => beginFill c s := by
  unfold takeFill
  rw [if_neg (not_not.mpr opened)]
  dsimp only
  rw [if_neg idle, found] <;> rfl

/-- Checks 6 to 10, once a fill has been requested and a certificate is there. -/
theorem fillCheck_eq {c : Compartment} {x : Certificate} (clean : ¬ (c.state ≠ .clean ∧ c.state ≠ .partFilled))
    (requested : c.fillTarget ≠ 0) (certified : c.certificate = some x) : fillCheck s c =
      if x.grade.rank < (minGradeOf s).rank then some .gradeLow
      else if x.fitFor ≠ c.nextClass then some .wrongClass
      else if c.keyed = true ∧ keyIsOn s = false then some .keyed
      else if armOn s c.index = false then some .armNotSeated
      else if probeWet s c.index = true then some .probeWet
      else none := by
  unfold fillCheck
  rw [if_neg clean, if_neg requested, certified]

/-- The context of a fill, by the first case that applies (R143). -/
theorem fillCtxFor_fields (e : Nat) (c : Compartment) :
    (fillCtxFor e c).full = 5 * c.fillTarget ∧ (fillCtxFor e c).already = c.metered
    ∧ (fillCtxFor e c).remaining = 5 * c.fillTarget - c.metered
    ∧ (fillCtxFor e c).trim = trimOf (5 * c.fillTarget) ∧ (fillCtxFor e c).tolerance = toleranceOf (5 * c.fillTarget)
    ∧ (fillCtxFor e c).compartment = c.index ∧ (fillCtxFor e c).count = 0 ∧ (fillCtxFor e c).runOn = 0
    ∧ (fillCtxFor e c).learn = false ∧ (fillCtxFor e c).quietMs = 0 := by
  unfold fillCtxFor firstPhase
  split
  · exact ⟨rfl, rfl, rfl, rfl, rfl, rfl, rfl, rfl, rfl, rfl⟩
  · split <;> exact ⟨rfl, rfl, rfl, rfl, rfl, rfl, rfl, rfl, rfl, rfl⟩

/-! ## Stops (R149) -/

/-- A fill stopped: RUN_ON with its cause, unless it is in RUN_ON already. -/
def stopped (cause : FillCause) (x : FillCtx) : FillCtx :=
  if x.phase = .runOn then x else { x with phase := .runOn, cause := some cause, learn := false, quietMs := 0 }

theorem stopFill_eq {x : FillCtx} (cause : FillCause) (hctx : s.fill.ctx = some x) :
    stopFill cause s = setFillCtx (some (stopped cause x)) s := by
  cases phase : x.phase with
  | runOn =>
    have same : s.fill = { s.fill with ctx := some x } := by rw [← hctx]
    simp only [stopFill, hctx, phase, stopped, if_true, setFillCtx]
    rw [← same]
    rfl
  | fullFlow | trim =>
    rw [stopFill_of_valveOpen cause hctx (by simp [phase]), stopped, if_neg (by simp [phase])]
    rfl

theorem stopped_phase (cause : FillCause) (x : FillCtx) : (stopped cause x).phase = .runOn := by
  unfold stopped
  split
  · assumption
  · rfl

/-! ## A fault raised (R179) -/

/-- A fault raised changes the fault record and the yard line interface alone. -/
theorem raiseFault_rest (k : FaultKind) (comp stage : Option Nat) (s : State) :
    raiseFault k comp stage s = { s with
      faults := (raiseFault k comp stage s).faults, line := (raiseFault k comp stage s).line }
    ∧ (raiseFault k comp stage s).line.bus = s.line.bus := by
  unfold raiseFault queueEvent
  repeat' split
  all_goals exact ⟨rfl, rfl⟩

/-- An empty record is filled. -/
theorem raiseFault_empty (k : FaultKind) (comp stage : Option Nat) (empty : s.faults.record = none) :
    (raiseFault k comp stage s).faults = { s.faults with record := some (faultRecOf k comp stage s) } := by
  unfold raiseFault queueEvent
  rw [empty]
  dsimp only
  split <;> rfl

/-- An empty record's fault is noticed. -/
theorem raiseFault_empty_fifo (k : FaultKind) (comp stage : Option Nat) (empty : s.faults.record = none)
    (room : FifoBounded s) :
    (raiseFault k comp stage s).line.fifo = joined [.fault (faultRecOf k comp stage s)] s := by
  obtain ⟨l, hl, hfifo⟩ := queueEvent_joins (.fault (faultRecOf k comp stage s))
    (s.setFaults { s.faults with record := some (faultRecOf k comp stage s) }) room
  unfold raiseFault
  rw [empty]
  dsimp only
  rw [hl]
  exact hfifo

/-- A record held stands, the overflow flag set and no notice queued. -/
theorem raiseFault_held_eq (k : FaultKind) (comp stage : Option Nat) (held : s.faults.record.isSome = true) :
    raiseFault k comp stage s = s.setFaults { s.faults with overflow := true } := by
  obtain ⟨r, hr⟩ := Option.isSome_iff_exists.mp held
  unfold raiseFault
  rw [hr]

/-- A stop to the end of its event, `w` being what the field's line or the fault raised has left. -/
theorem stopFill_concluded {w : State} {x : FillCtx} (cause : FillCause) (hctx : s.fill.ctx = some x)
    (rest : w = { s with panel := w.panel, faults := w.faults, line := w.line }) :
    let t := conclude s (stopFill cause w)
    t.fill.estimate = s.fill.estimate ∧ t.fill.ctx = some (stopped cause x)
    ∧ t.outs.fillHigh = false ∧ t.outs.fillLow = false
    ∧ t.job = s.job ∧ t.pass = s.pass ∧ t.diu = s.diu ∧ SameShare s t ∧ SameModule s t
    ∧ t.panel = w.panel ∧ t.faults = w.faults ∧ (w.line.bus = s.line.bus → Sending w.line.fifo s t) := by
  have hw : w.fill.ctx = some x := by rw [rest]; exact hctx
  rw [stopFill_eq cause hw]
  have k := conclude_same s (setFillCtx (some (stopped cause x)) w) (by rw [rest]; rfl)
  have ctx : (conclude s (setFillCtx (some (stopped cause x)) w)).fill.ctx = some (stopped cause x) :=
    congrArg FillUnit.ctx k.fill
  have valves := drive_valves_shut (s := conclude s (setFillCtx (some (stopped cause x)) w)) (fun y hy => by
    rw [ctx, Option.some.injEq] at hy
    exact hy ▸ stopped_phase cause x)
  refine ⟨?_, ctx, ?_, ?_, ?_, ?_, ?_, k.sameShare ?_, k.sameModule ?_, k.panel, k.faults, fun bus => k.sending bus⟩
  · rw [k.fill, rest]; rfl
  · rw [conclude_outs]; exact valves.1
  · rw [conclude_outs]; exact valves.2
  · rw [k.job, rest]; rfl
  · rw [k.pass, rest]; rfl
  · rw [k.diu, rest]; rfl
  · rw [rest]; rfl
  · rw [rest]; exact .refl s

end Sys2Proof.Machine
end

section
open Sys2Proof Sys2Proof.Machine

/-- Settles O18: the checks in their order end each in its refusal, the last in the fill begun; its context by
`fillCtxFor_fields` and the first case that applies. -/
theorem fillChecksInOrder : Obligations.FillChecksInOrder := by
  unfold Obligations.FillChecksInOrder
  refine ⟨fun switches s running notGathering => ?_, fun e c => ?_⟩
  · let u := takeSwitches switches s
    have taken := exec_fill_running switches running notGathering
    have refused {r : Reason} (h : takeFill (selection switches s) u = refuse r u) :
        Refuses r s (conclude s (takeFill (selection switches s) u)) := by
      rw [h]
      exact refuse_takeSwitches_concluded r switches s running
    refine ⟨_, taken, ?_⟩
    by_cases opened : s.job.state = .opened
    case neg => rw [if_pos opened]; exact refused (if_pos opened)
    case pos =>
    rw [if_neg (not_not.mpr opened)]
    have opened' : ¬ u.job.state ≠ .opened := not_not.mpr opened
    by_cases one : (selection switches s).length = 1
    case neg =>
      rw [if_pos one]
      refine refused ?_
      unfold takeFill
      rw [if_neg opened']
      split
      · simp_all
      · rfl
    case pos =>
    rw [if_neg (not_not.mpr one)]
    obtain ⟨i, sel⟩ := List.length_eq_one_iff.mp one
    by_cases busy : s.fill.ctx.isSome = true
    case pos =>
      rw [if_pos busy]
      refine refused ?_
      unfold takeFill
      rw [if_neg opened', sel]
      exact if_pos busy
    case neg =>
    rw [if_neg busy]
    intro j c sel' found
    obtain rfl : i = j := by simpa [sel] using sel'
    have found' : compartment? u i = some c := found
    have index : c.index = i := compartment?_index found
    have checked := takeFill_checked (s := u) (i := i) opened busy found'
    rw [← sel] at checked
    have refusedBy {r : Reason} (h : fillCheck u c = some r) :
        Refuses r s (conclude s (takeFill (selection switches s) u)) := refused (by rw [checked, h])
    by_cases clean : c.state ≠ .clean ∧ c.state ≠ .partFilled
    case pos => rw [if_pos clean]; exact refusedBy (if_pos clean)
    case neg =>
    rw [if_neg clean]
    by_cases requested : c.fillTarget = 0
    case pos =>
      rw [if_pos requested]
      exact refusedBy (by rw [fillCheck, if_neg clean, if_pos requested])
    case neg =>
    rw [if_neg requested]
    intro x certified
    have checks : fillCheck u c =
        if x.grade.rank < (minGradeOf s).rank then some .gradeLow
        else if x.fitFor ≠ c.nextClass then some .wrongClass
        else if c.keyed = true ∧ s.panel.level.key = false then some .keyed
        else if lineOn s.panel.level.arm i = false then some .armNotSeated
        else if lineOn s.panel.level.probe i = true then some .probeWet
        else none := by
      rw [← index]
      exact fillCheck_eq clean requested certified
    split_ifs at checks ⊢
    case neg =>
      rw [checked, checks]
      dsimp only
      have k := conclude_same s (beginFill c u) rfl
      rw [← index]
      exact ⟨k.job, k.fill, k.pass, k.diu, k.faults, takeSwitches_taken switches k.panel,
        k.sameModule (.refl s), k.sameShare rfl, k.sending rfl⟩
    all_goals exact refusedBy checks
  · obtain ⟨full, already, remaining, trim, tolerance, compartment, count, runOn, learn, quiet⟩ := fillCtxFor_fields e c
    refine ⟨full, already, remaining, trim, tolerance, compartment, count, runOn, learn, quiet, fun within => ?_,
      fun beyond far => ?_, fun beyond near => ?_⟩
    · rw [fillCtxFor, firstPhase, if_pos (show (freshFill c).full ≤ (freshFill c).already + (freshFill c).tolerance
        from within)]
      exact ⟨rfl, rfl⟩
    · rw [fillCtxFor, firstPhase, if_neg (show ¬ (freshFill c).full ≤ (freshFill c).already + (freshFill c).tolerance
        from not_le.mpr beyond), if_pos (show (freshFill c).trim < (freshFill c).remaining from far)]
      exact ⟨rfl, rfl, rfl⟩
    · rw [fillCtxFor, firstPhase, if_neg (show ¬ (freshFill c).full ≤ (freshFill c).already + (freshFill c).tolerance
        from not_le.mpr beyond), if_neg (show ¬ (freshFill c).trim < (freshFill c).remaining from not_lt.mpr near)]
      refine ⟨rfl, rfl, ?_⟩
      simp only [enterTrim, trimClosePoint, freshFill, fullTargetOf, Nat.zero_add]

/-- Settles O19: each of the three stops is `stopFill`, after the fault that it raises; the valves are shut in RUN_ON. -/
theorem stopsOfAFill : Obligations.StopsOfAFill := by
  unfold Obligations.StopsOfAFill
  intro c cause s x running hctx stop
  have filling (w : State) (hw : w.fill = s.fill) : filling? w = some x.compartment := by
    rw [filling?, hw, hctx]
    rfl
  obtain ⟨rfl, rfl⟩ | ⟨rfl, rfl, valve⟩ | ⟨rfl, rfl, notSpray, notDrainDown, notLate⟩ := stop
  case inl =>
    let w := takeLine (.arm x.compartment) false s
    have effect : fillArmDropped x.compartment w = stopFill .armRemoved w := if_pos (filling w rfl)
    have taken : exec (.fillArmDrop x.compartment) s = .next (conclude s (stopFill .armRemoved w)) := by
      rw [← effect]
      unfold exec execFillArmDrop
      exact event_running _ s running
    obtain ⟨estimate, ctx, high, low, job, pass, diu, share, module, panel, faults, line⟩ :=
      stopFill_concluded (w := w) .armRemoved hctx rfl
    refine ⟨_, taken, estimate, ctx, high, low, job, pass, diu, share, module, by rw [panel]; rfl,
      by rw [panel]; rfl, fun _ => ⟨faults, line rfl⟩, ?_⟩
    rintro k (⟨h, _⟩ | ⟨h, _⟩) <;> cases h
  case' inr.inl =>
    let k : FaultKind := .fillStalled
    let v := s.setPanel s.panel
    have effect : fillStalled s = stopFill .fillStalled (raiseFault k (some x.compartment) none v) := by
      have isOpen : valveOpen s = true := by simp [valveOpen, hctx, valve]
      simp only [fillStalled, filling s rfl, isOpen, if_true]
      rfl
    have taken : exec .fillStalled s
        = .next (conclude s (stopFill .fillStalled (raiseFault k (some x.compartment) none v))) := by
      rw [← effect]
      unfold exec execFillStalled
      exact event_running _ s running
  case' inr.inr =>
    let k : FaultKind := .fillProbe
    let v := takeLine (.probe x.compartment) true s
    have effect : fillProbeWet x.compartment (takeProbeWet x.compartment v)
        = stopFill .fillProbe (raiseFault k (some x.compartment) none v) := by
      have unheard : takeProbeWet x.compartment v = v := by
        have late : recordLate .overflow x.compartment v = v := recordLate_of_not_late v _ _ notLate
        have phase : v.pass.phase = s.pass.phase := rfl
        unfold takeProbeWet
        rw [late]
        cases h : s.pass.phase <;> simp_all
      rw [unheard]
      exact if_pos (filling v rfl)
    have taken : exec (.highLevelProbeWet x.compartment) s
        = .next (conclude s (stopFill .fillProbe (raiseFault k (some x.compartment) none v))) := by
      rw [← effect]
      unfold exec execHighLevelProbeWet
      exact event_running _ s running
  all_goals
    obtain ⟨rest, bus⟩ := raiseFault_rest k (some x.compartment) none v
    obtain ⟨estimate, ctx, high, low, job, pass, diu, share, module, panel, faults, line⟩ :=
      stopFill_concluded (w := raiseFault k (some x.compartment) none v) _ hctx
        (by rw [rest]; rfl)
    refine ⟨_, taken, estimate, ctx, high, low, job, pass, diu, share, module, ?_, ?_, nofun, ?_⟩
    · rw [panel, rest]; rfl
    · rw [panel, rest]; rfl
    rintro k' (⟨h, rfl⟩ | ⟨h, rfl⟩) <;> cases h
    refine ⟨fun empty => ?_, fun held => ⟨?_, ?_⟩⟩
    · rw [faults]
      exact raiseFault_empty k _ _ (s := v) empty
    · rw [faults, raiseFault_held_eq k _ _ (s := v) held]
      rfl
    · have sent := line bus
      rw [raiseFault_held_eq k _ _ (s := v) held] at sent ⊢
      exact sent

end

section
/-! SUPPORT. The meters (R35, R61), the metering of a fill (R144 to R146), the entry of DRAIN (R68, R73, R97) and the end
of a run-down (R83). -/

namespace Sys2Proof.Machine

variable {s t u : State}

/-! ## The starvation inputs -/

/-- A pass of the same phase, stage, recipe and members has the same starvation inputs. -/
theorem starveInputs_of_fields (sameFormed : formed u.pass ↔ formed s.pass) (stage : u.pass.stage = s.pass.stage)
    (recipe : u.pass.recipeData = s.pass.recipeData) (members : u.pass.members = s.pass.members)
    (hot : u.share.hotShare = s.share.hotShare) (level : u.share.level = s.share.level) :
    starveInputs u = starveInputs s := by
  have sameStage : stageOf u.pass = stageOf s.pass := by rw [stageOf, stageOf, recipeOf, recipeOf, stage, recipe]
  have flow : nominalFlow u.pass = nominalFlow s.pass := by
    rw [nominalFlow, nominalFlow, sameStage, sprayingMembers, sprayingMembers, members]
  unfold starveInputs
  simp only [decide_eq_decide.mpr sameFormed, sameStage, flow, hot, level]

/-! ## Tallies (R35) -/

theorem jobRuns_iff (s : State) : jobRuns s = true ↔ s.job.state = .opened ∨ s.job.state = .releasing := by
  unfold jobRuns
  cases s.job.state <;> simp

/-- A tally that grows while the job runs, saturating (R35). -/
def tallied (n tally : Nat) (s : State) : Nat :=
  if s.job.state = .opened ∨ s.job.state = .releasing then min 4294967295 (tally + n) else tally

theorem tallySupply_eq (n : Nat) (s : State) :
    tallySupply n s = s.setJob { s.job with supplyTally := tallied n s.job.supplyTally s } := by
  unfold tallySupply tallied
  by_cases runs : s.job.state = .opened ∨ s.job.state = .releasing
  · rw [if_pos ((jobRuns_iff s).mpr runs), if_pos runs]
    rfl
  · rw [if_neg (fun h => runs ((jobRuns_iff s).mp h)), if_neg runs]
    rfl

theorem tallyAgent_eq (n : Nat) (s : State) :
    tallyAgent n s = s.setJob { s.job with agentTally := tallied n s.job.agentTally s } := by
  unfold tallyAgent tallied
  by_cases runs : s.job.state = .opened ∨ s.job.state = .releasing
  · rw [if_pos ((jobRuns_iff s).mpr runs), if_pos runs]
    rfl
  · rw [if_neg (fun h => runs ((jobRuns_iff s).mp h)), if_neg runs]
    rfl

theorem tallyEffluent_eq (s : State) :
    tallyEffluent s = s.setJob { s.job with effluentTally := tallied 1 s.job.effluentTally s } := by
  unfold tallyEffluent tallied
  by_cases runs : s.job.state = .opened ∨ s.job.state = .releasing
  · rw [if_pos ((jobRuns_iff s).mpr runs), if_pos runs]
    rfl
  · rw [if_neg (fun h => runs ((jobRuns_iff s).mp h)), if_neg runs]
    rfl

theorem tallyProduct_eq (n : Nat) (s : State) :
    tallyProduct n s = s.setJob { s.job with productTally := tallied n s.job.productTally s } := by
  unfold tallyProduct tallied
  by_cases runs : s.job.state = .opened ∨ s.job.state = .releasing
  · rw [if_pos ((jobRuns_iff s).mpr runs), if_pos runs]
    rfl
  · rw [if_neg (fun h => runs ((jobRuns_iff s).mp h)), if_neg runs]
    rfl

/-! ## The pass's meters (R61, R68, R70) -/

theorem countsSpray_iff (p : Pass) :
    countsSpray p = true ↔ p.phase = .spray ∨ (p.phase = .runDown ∧ p.fromSpray = true) := by simp [countsSpray]

theorem passSupply_of_formed (n : Nat) {p : Pass} (h : formed p) : passSupply n p = { p with
    supplyMeter := min 4294967295 (p.supplyMeter + n)
    spray := if p.phase = .spray ∨ (p.phase = .runDown ∧ p.fromSpray = true) then
      p.spray.map (fun r => { r with supply := r.supply + n }) else p.spray } := by
  rw [passSupply, if_pos h]
  simp only [countsSpray_iff]
  rfl

theorem passAgent_of_formed (n : Nat) {p : Pass} (h : formed p) : passAgent n p = { p with
    agentMeter := min 4294967295 (p.agentMeter + n)
    spray := if p.phase = .spray ∨ (p.phase = .runDown ∧ p.fromSpray = true) then
      p.spray.map (fun r => { r with agent := r.agent + n }) else p.spray } := by
  rw [passAgent, if_pos h]
  simp only [countsSpray_iff]
  rfl

/-! ## The entry of DRAIN (R68, R73, R97) -/

/-- DRAIN with its list, the window of its first member open. -/
def openedDrain (i : Nat) (s : State) : State :=
  openRecord (windowFor i s) (s.setPass { s.pass with draining := some i })

/-- In DRAIN a window opens without a finding where no named channel is absent, or it is not inspected. -/
theorem openNext_eq {i : Nat} {l : List Nat} (phase : s.pass.phase = .drain) (list : s.pass.drainList = i :: l)
    (quiet : namedAbsent s = false ∨ inspectedFor i s.pass = false) : openNext s = openedDrain i s := by
  unfold openNext
  rw [list]
  have unheard : sensorFault (openedDrain i s) = false := by
    rcases quiet with present | uninspected
    · have present' : namedAbsent (openedDrain i s) = false := present
      simp [sensorFault, present']
    · have unwatched : watchesSensors (openedDrain i s) = false := by
        simp [watchesSensors, openedDrain, openRecord, inspectedOpen, windowFor, uninspected, phase]
      simp [sensorFault, unwatched]
  exact if_neg (ne_true_of_eq_false unheard)

/-- The window of a retiring member is not inspected (R73). -/
theorem inspectedFor_of_retiring {p : Pass} {m : Member} (i : Nat) (hm : member? p i = some m)
    (retiring : m.retiring.isSome = true) : inspectedFor i p = false := by
  simp [inspectedFor, hm, retiring]

/-- The member of an index that stands first in the list. -/
theorem member?_of_head {p : Pass} {m : Member} {l : List Member} (h : p.members = m :: l) :
    member? p m.index = some m := by
  simp [member?, h]

/-- DRAIN for the retiring members alone (R97). -/
theorem drainRetiring_eq {m : Member} {l : List Member} (members : s.pass.members = m :: l)
    (retiring : m.retiring.isSome = true) : drainRetiring s =
      openedDrain m.index (standInDrain (s.pass.members.map (·.index)) (leaveFlush s)) := by
  unfold drainRetiring
  refine openNext_eq (l := l.map (·.index)) rfl (by rw [members]; rfl) (.inr ?_)
  exact inspectedFor_of_retiring _ (member?_of_head (l := l)
    (by simp [standInDrain, pumpAtRest, pumpPin, clearSteady, members])) retiring

/-- DRAIN at the end of a SPRAY whose members' heads are on and whose named channels are present (R68, R73). -/
theorem enterDrain_eq {i : Nat} {l : List Nat} (seated : unseated s = []) (present : namedAbsent s = false)
    (list : (s.pass.members.filter (fun m => !m.passed)).map (·.index) = i :: l) :
    enterDrain s = openedDrain i (standInDrain (i :: l) s) := by
  unfold enterDrain
  rw [list]
  let d := standInDrain (i :: l) s
  have seated' : unseated d = [] := seated
  have present' : namedAbsent d = false := present
  have findings : drainFindings d = d := by
    unfold drainFindings headCheck
    rw [seated']
    simp [faultEach]
  have someMember : d.pass.members ≠ [] := by
    rintro h
    have : s.pass.members = [] := h
    simp [this] at list
  show drainOnOrEnd (drainFindings d) = _
  rw [findings, drainOnOrEnd, if_neg (by simp [d, standInDrain, pumpAtRest, pumpPin, clearSteady]), if_neg someMember]
  exact openNext_eq (l := l) rfl rfl (.inl present')

/-! ## The end of a run-down (R83) -/

/-- The line of the pump taken, or the time-out alone: only the panel has changed before the run-down ends. -/
theorem exec_run_down_end {c : Instr} (running : s.power = .running)
    (h : c = .pumpStoppedOn ∨ c = .runDownTimeout) :
    ∃ p : Panel, (c = .pumpStoppedOn → p.level.pumpStopped = true)
      ∧ exec c s = .next (conclude s (endIfRunDown (s.setPanel p))) := by
  obtain rfl | rfl := h
  · refine ⟨(takeLine .pumpStopped true s).panel, fun _ => rfl, ?_⟩
    unfold exec execPumpStoppedOn
    exact event_running _ s running
  · refine ⟨s.panel, nofun, ?_⟩
    unfold exec execRunDownTimeout
    exact event_running _ s running

theorem endRunDown_held (dest : s.pass.dest = some .held) : endRunDown s = enterHeld s := by simp [endRunDown, dest]

theorem endRunDown_drainDown (dest : s.pass.dest = some .drainDown) : endRunDown s = enterDrainDown s := by
  simp [endRunDown, dest]

theorem endRunDown_drain (dest : s.pass.dest = some .drain) : endRunDown s = drainRetiring s := by
  simp [endRunDown, dest]

theorem endRunDown_starved (dest : s.pass.dest = some .starved) (short : volumeReached s.pass = false)
    (unresumed : resumption s = false) : endRunDown s = enterStarved s := by
  simp [endRunDown, dest, short, unresumed]

/-- Leaving a FLUSH changes the DIU alone. -/
theorem leaveFlush_eq_setDiu (s : State) : ∃ d, leaveFlush s = s.setDiu d := by
  unfold leaveFlush
  split
  · exact ⟨_, rfl⟩
  · exact ⟨s.diu, rfl⟩

end Sys2Proof.Machine
end

section
open Sys2Proof Sys2Proof.Machine

/-- Settles O24: by the destination; the pass stays formed with its stage and members, so no condition is looked at
again. -/
theorem runDownEnds : Obligations.RunDownEnds := by
  unfold Obligations.RunDownEnds
  intro c s running hc
  obtain ⟨p, stopped, taken⟩ := exec_run_down_end running hc
  refine ⟨_, taken, fun notRunDown => ?_, fun runDown dest => ?_, fun runDown dest => ?_,
    fun runDown dest short unresumed => ?_, fun runDown dest nonempty retiring unaborted distinct => ?_⟩
  · have effect : endIfRunDown (s.setPanel p) = s.setPanel p := if_neg notRunDown
    rw [effect]
    have k := conclude_same s (s.setPanel p) rfl
    exact ⟨fun h => by rw [k.panel]; exact stopped h, k.pass, k.job, k.sameDiuFillFaults rfl rfl rfl, k.sameShare rfl,
      k.sameModule (.refl s), k.sending rfl⟩
  · have effect : endIfRunDown (s.setPanel p) = enterHeld (s.setPanel p) :=
      (if_pos runDown).trans (endRunDown_held (s := s.setPanel p) dest)
    rw [effect]
    have k := conclude_phase s (enterHeld (s.setPanel p)) (by simp [enterHeld]) (by simp [enterHeld])
    rw [k.pass]
    exact ⟨rfl, rfl, rfl, rfl, rfl, k.job, k.sameDiuFillFaults rfl rfl rfl, k.sameShare rfl, k.sameModule (.refl s),
      k.sending rfl⟩
  · have effect : endIfRunDown (s.setPanel p) = enterDrainDown (s.setPanel p) :=
      (if_pos runDown).trans (endRunDown_drainDown (s := s.setPanel p) dest)
    rw [effect]
    have k := conclude_phase s (enterDrainDown (s.setPanel p)) (by simp [enterDrainDown]) (by simp [enterDrainDown])
    rw [k.pass]
    exact ⟨rfl, rfl, rfl, rfl, k.job, k.sameDiuFillFaults rfl rfl rfl, k.sameShare rfl, k.sameModule (.refl s),
      k.sending rfl⟩
  · have effect : endIfRunDown (s.setPanel p) = enterStarved (s.setPanel p) :=
      (if_pos runDown).trans (endRunDown_starved (s := s.setPanel p) dest short unresumed)
    rw [effect]
    have k := conclude_same s (enterStarved (s.setPanel p))
      (starveInputs_of_fields (by simp [enterStarved, formed, runDown]) rfl rfl rfl rfl rfl)
    rw [k.pass]
    exact ⟨rfl, rfl, rfl, rfl, k.job, k.sameDiuFillFaults rfl rfl rfl, k.sameShare rfl, k.sameModule (.refl s),
      k.sending rfl⟩
  · obtain ⟨m, l, members⟩ := List.exists_cons_of_ne_nil nonempty
    have headRetiring : m.retiring.isSome = true := retiring m (by rw [members]; exact List.mem_cons_self)
    have effect : endIfRunDown (s.setPanel p)
        = openedDrain m.index (standInDrain (s.pass.members.map (·.index)) (leaveFlush (s.setPanel p))) :=
      ((if_pos runDown).trans (endRunDown_drain (s := s.setPanel p) dest)).trans
        (drainRetiring_eq (s := s.setPanel p) members headRetiring)
    obtain ⟨d, left⟩ := leaveFlush_eq_setDiu (s.setPanel p)
    rw [effect, left]
    let v := standInDrain (s.pass.members.map (·.index)) ((s.setPanel p).setDiu d)
    have uninspected : inspectedFor m.index v.pass = false :=
      inspectedFor_of_retiring _ (member?_of_head (p := v.pass) members) headRetiring
    have k := conclude_phase s (openedDrain m.index v) nofun nofun
    have list : s.pass.members.map (·.index) = m.index :: l.map (·.index) := by rw [members]; rfl
    rw [k.pass, k.diu, k.panel]
    refine ⟨rfl, rfl, ?_, rfl, rfl, ?_, rfl, k.job, k.fill, k.faults, k.sameModule (.refl s), k.sending rfl⟩
    · show some m.index = (s.pass.members.map (·.index)).head?
      rw [list]
      rfl
    · show some (m.index, inspectedFor m.index v.pass) = (s.pass.members.map (·.index)).head?.map (·, false)
      rw [list, uninspected]
      rfl

end

section
/-! SUPPORT. What the pulses of one event lead to at the pass and at the fill (R61, R68, R70, R144 to R146). -/

namespace Sys2Proof.Machine

variable {s t u : State}

/-! ## Supply and agent pulses -/

/-- The meters leave the phase, the stage, the recipe and the members of a pass alone. -/
theorem passSupply_frame (n : Nat) (p : Pass) : (passSupply n p).phase = p.phase ∧ (passSupply n p).stage = p.stage
    ∧ (passSupply n p).recipeData = p.recipeData ∧ (passSupply n p).members = p.members := by
  unfold passSupply
  split <;> exact ⟨rfl, rfl, rfl, rfl⟩

theorem passAgent_frame (n : Nat) (p : Pass) : (passAgent n p).phase = p.phase ∧ (passAgent n p).stage = p.stage
    ∧ (passAgent n p).recipeData = p.recipeData ∧ (passAgent n p).members = p.members := by
  unfold passAgent
  split <;> exact ⟨rfl, rfl, rfl, rfl⟩

theorem passDrain_frame (p : Pass) : (passDrain p).phase = p.phase ∧ (passDrain p).stage = p.stage
    ∧ (passDrain p).recipeData = p.recipeData ∧ (passDrain p).members = p.members := by
  unfold passDrain
  split <;> exact ⟨rfl, rfl, rfl, rfl⟩

theorem formed_congr {p q : Pass} (phase : q.phase = p.phase) : formed q ↔ formed p := by rw [formed, formed, phase]

/-- A pass in SPRAY is formed. -/
theorem formed_of_spray {p : Pass} (h : p.phase = .spray) : formed p := by simp [formed, h]

/-- `n` supply pulses counted, before the volume is looked at. -/
def suppliedBy (n : Nat) (s : State) : State :=
  (s.setJob { s.job with supplyTally := tallied n s.job.supplyTally s }).setPass (passSupply n s.pass)

theorem supplyPulses_eq (n : Nat) (s : State) : supplyPulses n s = sprayEndCheck (suppliedBy n s) := by
  unfold supplyPulses
  rw [tallySupply_eq]
  rfl

theorem agentPulses_eq (n : Nat) (s : State) : agentPulses n s =
    (s.setJob { s.job with agentTally := tallied n s.job.agentTally s }).setPass (passAgent n s.pass) := by
  unfold agentPulses
  rw [tallyAgent_eq]
  rfl

theorem drainPulse_eq (s : State) : drainPulse s =
    ((s.setJob { s.job with effluentTally := tallied 1 s.job.effluentTally s }).setPass (passDrain s.pass)).setDiu
      (windowPulse s.diu) := by
  unfold drainPulse
  rw [tallyEffluent_eq]
  rfl

/-- What a pass of another spray record has for its volume target. -/
theorem volumeTarget_passSupply (n : Nat) (p : Pass) : volumeTarget (passSupply n p) = volumeTarget p := by
  obtain ⟨-, stage, recipe, members⟩ := passSupply_frame n p
  rw [volumeTarget, volumeTarget, stageOf, stageOf, recipeOf, recipeOf, sprayingMembers, sprayingMembers, stage,
    recipe, members]

theorem starveInputs_suppliedBy (n : Nat) (s : State) : starveInputs (suppliedBy n s) = starveInputs s := by
  obtain ⟨phase, stage, recipe, members⟩ := passSupply_frame n s.pass
  exact starveInputs_of_fields (formed_congr phase) stage recipe members rfl rfl

/-- Pulses that do not reach the volume of a SPRAY are counted alone. -/
theorem supplyPulses_short {n : Nat} (short : ∀ r, s.pass.phase = .spray → s.pass.spray = some r →
    r.supply + n < volumeTarget s.pass) : supplyPulses n s = suppliedBy n s := by
  rw [supplyPulses_eq]
  refine if_neg (fun ⟨phase, reached⟩ => ?_)
  have spraying : s.pass.phase = .spray := (passSupply_frame n s.pass).1.symm.trans phase
  have target : volumeTarget (suppliedBy n s).pass = volumeTarget s.pass := volumeTarget_passSupply n s.pass
  have counted : (suppliedBy n s).pass.spray = s.pass.spray.map (fun r => { r with supply := r.supply + n }) := by
    show (passSupply n s.pass).spray = _
    rw [passSupply_of_formed n (formed_of_spray spraying)]
    exact if_pos (.inl spraying)
  cases record : s.pass.spray with
  | none => simp [volumeReached, counted, record] at reached
  | some r =>
    have below := short r spraying record
    simp only [volumeReached, counted, record, Option.map_some, target, decide_eq_true_eq] at reached
    omega

/-- The pulses still missing to the volume of a SPRAY end it. -/
theorem supplyPulses_reached {r : SprayRecord} {n : Nat} (phase : s.pass.phase = .spray)
    (record : s.pass.spray = some r) (reached : r.supply + n = volumeTarget s.pass) :
    supplyPulses n s = enterDrain (suppliedBy n s) := by
  rw [supplyPulses_eq]
  have target : volumeTarget (suppliedBy n s).pass = volumeTarget s.pass := volumeTarget_passSupply n s.pass
  have counted : (suppliedBy n s).pass.spray = some { r with supply := r.supply + n } := by
    show (passSupply n s.pass).spray = _
    rw [passSupply_of_formed n (formed_of_spray phase), record]
    exact if_pos (.inl phase)
  refine if_pos ⟨(passSupply_frame n s.pass).1.trans phase, ?_⟩
  simp [volumeReached, counted, target, reached]

/-- A SPRAY with a volume has a member that is not passed. -/
theorem unpassed_of_volumeTarget {p : Pass} (h : 0 < volumeTarget p) :
    ∃ i l, (p.members.filter (fun m => !m.passed)).map (·.index) = i :: l := by
  refine List.exists_cons_of_ne_nil (fun none => ?_)
  have passed : ∀ m ∈ p.members, m.passed = true := by simpa using none
  have noSpraying : sprayingMembers p = [] := List.filter_eq_nil_iff.mpr (fun m hm => by simp [passed m hm])
  simp [volumeTarget, noSpraying] at h

/-! ## Outputs -/

/-- The agent pump is off at the allowance (R70). -/
theorem drive_agentPump_off (h : agentPumpOn s.pass = false) : (drive s).agentPump = false := by
  obtain ⟨-, e⟩ | ⟨-, e⟩ | ⟨-, e⟩ := drive_cases s
  · rw [e]; rfl
  · rw [e]; rfl
  · rw [e]; exact h

/-- Outside SPRAY and DRY the pump is off, no head is open and the setpoint is 0 (R63, R67). -/
theorem drive_spray_off (notSpray : s.pass.phase ≠ .spray) (notDry : s.pass.phase ≠ .dry) :
    (drive s).sprayPump = false ∧ (drive s).heads = 0 ∧ (drive s).spraySetpoint = 0 := by
  obtain ⟨-, e⟩ | ⟨-, e⟩ | ⟨-, e⟩ := drive_cases s
  · rw [e]; exact ⟨rfl, rfl, rfl⟩
  · rw [e]; exact ⟨rfl, rfl, rfl⟩
  · rw [e]; exact ⟨decide_eq_false notSpray, headsOpen_closed notSpray notDry, if_neg notSpray⟩

/-! ## Product pulses -/

/-- What `n` product pulses make of a fill. -/
def metered (n e : Nat) (x : FillCtx) : FillCtx :=
  if x.phase = .runOn then { x with count := x.count + n, runOn := x.runOn + n, quietMs := 0 }
  else if x.count + n < x.close then { x with count := x.count + n, quietMs := 0 }
  else if x.phase = .fullFlow then
    { x with
             count := x.count + n, phase := .trim, quietMs := 0
             close := (if x.count + n + e < x.remaining then x.remaining - e else x.count + n + 1) }
  else { x with count := x.count + n, phase := .runOn, cause := some .target, learn := true, quietMs := 0 }

theorem closeIfReached_countPulses (n e : Nat) (x : FillCtx) : closeIfReached e (countPulses n x) = metered n e x := by
  cases phase : x.phase with
  | fullFlow =>
    by_cases reached : x.close ≤ x.count + n
    · simp [closeIfReached, countPulses, metered, phase, reached, enterTrim, trimClosePoint]
    · simp [closeIfReached, countPulses, metered, phase, reached, not_le.mp reached]
  | trim =>
    by_cases reached : x.close ≤ x.count + n
    · simp [closeIfReached, countPulses, metered, phase, reached, enterRunOn]
    · simp [closeIfReached, countPulses, metered, phase, reached, not_le.mp reached]
  | runOn => simp [closeIfReached, countPulses, metered, phase]

/-- Product pulses change the tally and the fill's context alone. -/
theorem productPulses_eq (n : Nat) (s : State) : productPulses n s =
    (s.setJob { s.job with productTally := tallied n s.job.productTally s }).setFill
      { s.fill with ctx := s.fill.ctx.map (metered n s.fill.estimate) } := by
  unfold productPulses
  rw [tallyProduct_eq]
  cases fill : s.fill with
  | mk ctx estimate =>
    cases ctx with
    | none => simp [fill, State.setFill, State.setJob]
    | some x => simp [fill, setFillCtx, closeIfReached_countPulses]

end Sys2Proof.Machine
end

section
open Sys2Proof Sys2Proof.Machine

/-- Settles O25: each pulse is counted, and a supply pulse short of the target leads to nothing else. -/
theorem meterPulsesCount : Obligations.MeterPulsesCount := by
  unfold Obligations.MeterPulsesCount
  intro s running
  refine ⟨fun short => ?_, ?_, ?_⟩
  · have effect := supplyPulses_short (n := 1) (fun r phase record => short r phase record)
    have taken : exec .supplyPulse s = .next (conclude s (suppliedBy 1 s)) := by
      rw [← effect]
      unfold exec execSupplyPulse
      exact event_running _ s running
    have k := conclude_same s (suppliedBy 1 s) (starveInputs_suppliedBy 1 s)
    exact ⟨_, taken, k.job, fun unformed => k.pass.trans (if_neg unformed),
      fun isFormed => k.pass.trans (passSupply_of_formed 1 isFormed), k.sameDiuFillFaults rfl rfl rfl, k.panel,
      k.sameShare rfl, k.sameModule (.refl s), k.sending rfl⟩
  · let u := (s.setJob { s.job with agentTally := tallied 1 s.job.agentTally s }).setPass (passAgent 1 s.pass)
    have effect : agentPulses 1 s = u := agentPulses_eq 1 s
    have taken : exec .agentPulse s = .next (conclude s u) := by
      rw [← effect]
      unfold exec execAgentPulse
      exact event_running _ s running
    obtain ⟨phase, stage, recipe, members⟩ := passAgent_frame 1 s.pass
    have k := conclude_same s u (starveInputs_of_fields (formed_congr phase) stage recipe members rfl rfl)
    exact ⟨_, taken, k.job, fun unformed => k.pass.trans (if_neg unformed),
      fun isFormed => k.pass.trans (passAgent_of_formed 1 isFormed), k.sameDiuFillFaults rfl rfl rfl, k.panel,
      k.sameShare rfl, k.sameModule (.refl s), k.sending rfl⟩
  · let u := ((s.setJob { s.job with effluentTally := tallied 1 s.job.effluentTally s }).setPass
      (passDrain s.pass)).setDiu (windowPulse s.diu)
    have effect : drainPulse s = u := drainPulse_eq s
    have taken : exec .drainPulse s = .next (conclude s u) := by
      rw [← effect]
      unfold exec execDrainPulse
      exact event_running _ s running
    obtain ⟨phase, stage, recipe, members⟩ := passDrain_frame s.pass
    have k := conclude_same s u (starveInputs_of_fields (formed_congr phase) stage recipe members rfl rfl)
    exact ⟨_, taken, k.job, fun unformed => k.pass.trans (if_neg unformed),
      fun isFormed => k.pass.trans (if_pos isFormed), k.diu, k.fill, k.faults, k.panel,
      k.sameShare rfl, k.sameModule (.refl s), k.sending rfl⟩

/-- Settles O26: the missing pulses are counted, and DRAIN is entered without a finding. -/
theorem sprayEndsInDrainAtItsVolume : Obligations.SprayEndsInDrainAtItsVolume := by
  unfold Obligations.SprayEndsInDrainAtItsVolume
  intro c s r running phase record unaborted short hc seated present
  let n := volumeTarget s.pass - r.supply
  have whole : r.supply + n = volumeTarget s.pass := by omega
  obtain ⟨i, l, list⟩ := unpassed_of_volumeTarget (p := s.pass) (by omega)
  let v := (s.setJob { s.job with supplyTally := tallied n s.job.supplyTally s }).setPass { s.pass with
    supplyMeter := min 4294967295 (s.pass.supplyMeter + n)
    spray := some { r with supply := r.supply + n } }
  have counted : suppliedBy n s = v := by
    unfold suppliedBy
    rw [passSupply_of_formed n (formed_of_spray phase), if_pos (.inl phase), record]
    rfl
  have effect : supplyPulses n s = openedDrain i (standInDrain (i :: l) v) := by
    rw [supplyPulses_reached phase record whole, counted]
    exact enterDrain_eq (s := v) seated present list
  have taken : exec c s = .next (conclude s (openedDrain i (standInDrain (i :: l) v))) := by
    rw [← effect]
    obtain rfl | ⟨rfl, last⟩ := hc
    · have reached : reachVolume s = supplyPulses n s := by
        simp only [reachVolume, record, phase, if_true]
        rfl
      rw [← reached]
      unfold exec execSprayVolumeReached
      exact event_running _ s running
    · rw [show n = 1 by omega]
      unfold exec execSupplyPulse
      exact event_running _ s running
  have k := conclude_phase s (openedDrain i (standInDrain (i :: l) v)) nofun nofun
  have drain : (conclude s (openedDrain i (standInDrain (i :: l) v))).pass.phase = .drain := by rw [k.pass]; rfl
  obtain ⟨pump, heads, setpoint⟩ := drive_spray_off (s := conclude s (openedDrain i (standInDrain (i :: l) v)))
    (by rw [drain]; exact nofun) (by rw [drain]; exact nofun)
  refine ⟨_, taken, drain, ?_, ?_, ?_, ?_, ?_, ?_, ?_, k.job, k.panel, pump, heads, setpoint, ?_, ?_, k.fill, k.faults,
    k.sameModule (.refl s), k.sending rfl⟩
  case refine_5 => rw [k.diu, k.pass]; rfl
  case refine_6 => rw [k.diu]; rfl
  case refine_8 | refine_9 => rw [k.share]; rfl
  case refine_3 => rw [k.pass, list]; rfl
  all_goals rw [k.pass]; rfl

/-- Settles O27: the missing agent pulses bring the record to its allowance. -/
theorem agentPumpStopsAtItsAllowance : Obligations.AgentPumpStopsAtItsAllowance := by
  unfold Obligations.AgentPumpStopsAtItsAllowance
  intro s r running record pumping
  let n := r.supply * (stageOf s.pass).dose / 200 - r.agent
  have pumpOn := pumping
  obtain ⟨⟨phase, wash⟩, below⟩ : (s.pass.phase = .spray ∧ (stageOf s.pass).kind = .wash)
      ∧ r.agent < r.supply * (stageOf s.pass).dose / 200 := by
    simp only [agentPumpOn, record, Bool.and_eq_true, decide_eq_true_eq] at pumping
    exact pumping
  have isFormed := formed_of_spray phase
  let u := (s.setJob { s.job with agentTally := tallied n s.job.agentTally s }).setPass (passAgent n s.pass)
  have effect : reachAllowance s = u := by
    simp only [reachAllowance, record, pumpOn, if_true]
    exact agentPulses_eq n s
  have taken : exec .agentAllowanceReached s = .next (conclude s u) := by
    rw [← effect]
    unfold exec execAgentAllowanceReached
    exact event_running _ s running
  obtain ⟨phase', stage, recipe, members⟩ := passAgent_frame n s.pass
  have k := conclude_same s u (starveInputs_of_fields (formed_congr phase') stage recipe members rfl rfl)
  have pass : (conclude s u).pass = { s.pass with
      agentMeter := min 4294967295 (s.pass.agentMeter + n)
      spray := some { r with agent := r.supply * (stageOf s.pass).dose / 200 } } := by
    rw [k.pass]
    refine (passAgent_of_formed n isFormed).trans ?_
    rw [if_pos (.inl phase), record, Option.map_some, show r.agent + n = r.supply * (stageOf s.pass).dose / 200 by omega]
  have stopped : agentPumpOn (conclude s u).pass = false := by
    rw [pass]
    simp [agentPumpOn, agentAllowance, stageOf, recipeOf]
  refine ⟨_, taken, pass, ?_, by rw [pass]; exact phase, k.job, k.sameDiuFillFaults rfl rfl rfl, k.panel, k.sameShare rfl,
    k.sameModule (.refl s), k.sending rfl⟩
  rw [conclude_outs]
  exact drive_agentPump_off stopped

/-- Settles O28: every one of the commands is so many product pulses. -/
theorem productPulsesMeterTheFill : Obligations.ProductPulsesMeterTheFill := by
  unfold Obligations.ProductPulsesMeterTheFill
  intro c n s running hc
  have taken : exec c s = .next (conclude s (productPulses n s)) := by
    obtain ⟨rfl, rfl⟩ | ⟨x, hx, -, rfl, ⟨rfl, phase⟩ | ⟨rfl, phase⟩⟩ := hc
    · unfold exec execProductPulse
      exact event_running _ s running
    · have effect : reachFullFlowClose s = productPulses (x.close - x.count) s := by
        simp only [reachFullFlowClose, hx, phase, if_true]
      rw [← effect]
      unfold exec execFullFlowClosePoint
      exact event_running _ s running
    · have effect : reachTrimClose s = productPulses (x.close - x.count) s := by
        simp only [reachTrimClose, hx, phase, if_true]
      rw [← effect]
      unfold exec execTrimClosePoint
      exact event_running _ s running
  rw [productPulses_eq] at taken
  have k := conclude_same s ((s.setJob { s.job with productTally := tallied n s.job.productTally s }).setFill
      { s.fill with ctx := s.fill.ctx.map (metered n s.fill.estimate) }) rfl
  refine ⟨_, taken, k.job, fun none => ?_, by rw [k.fill]; rfl, fun x hx => ?_, k.pass, k.diu, k.faults,
    k.panel, k.sameShare rfl, k.sameModule (.refl s), k.sending rfl⟩
  · rw [k.fill]
    simp only [setFill_fill, none, Option.map_none]
    rw [← none]
  · rw [k.fill]
    simp only [setFill_fill, hx, Option.map_some]
    rfl

end

section
/-! SUPPORT. Faults that go to the fault record alone (R56, R92, R102), to the end of their event. -/

namespace Sys2Proof.Machine

variable {s t u : State}

/-- A fault of the pass engine raised in a state that differs from `s` in the panel, the DIU and what may still come in
this ms alone. -/
theorem raiseFault_concluded {k : FaultKind} {p : Panel} {d : Diu} {l : Late} (comp : Option Nat)
    (ofPass : k.source = .pass) :
    let w := ((s.setPanel p).setDiu d).setPass (s.pass.setLate l)
    let f : FaultRec := { kind := k, source := .pass, compartment := comp, stage := some s.pass.stage,
                          time := s.job.clock }
    let t := conclude s (raiseFault k comp (some s.pass.stage) w)
    (s.faults.record = none → t.faults = { record := some f, overflow := s.faults.overflow }
        ∧ (FifoBounded s → Sending (joined [.fault f] s) s t))
      ∧ (s.faults.record.isSome = true → t.faults = { s.faults with overflow := true } ∧ Sending s.line.fifo s t)
      ∧ t.pass = s.pass.setLate l ∧ t.job = s.job ∧ t.fill = s.fill ∧ t.diu = d ∧ t.panel = p
      ∧ SameShare s t ∧ SameModule s t := by
  intro w f t
  obtain ⟨rest, bus⟩ := raiseFault_rest k comp (some s.pass.stage) w
  have ended := conclude_same s (raiseFault k comp (some s.pass.stage) w) (by rw [rest]; rfl)
  have isF : faultRecOf k comp (some s.pass.stage) w = f := by rw [faultRecOf, ofPass]; rfl
  obtain ⟨fifo, sameBus⟩ := ended.sending (s := s) bus
  refine ⟨fun empty => ⟨?_, fun room => ⟨?_, sameBus⟩⟩, fun held => ⟨?_, ?_, sameBus⟩, ?_, ?_, ?_, ?_, ?_,
    ended.sameShare ?_, ended.sameModule ?_⟩
  · exact ended.faults.trans ((raiseFault_empty k comp _ (s := w) empty).trans (by rw [isF]; rfl))
  · exact fifo.trans ((raiseFault_empty_fifo k comp _ (s := w) empty room).trans (by rw [isF]; rfl))
  · exact ended.faults.trans (congrArg State.faults (raiseFault_held_eq k comp _ (s := w) held))
  · exact fifo.trans (by rw [raiseFault_held_eq k comp _ (s := w) held]; rfl)
  · rw [ended.pass, rest]; rfl
  · rw [ended.job, rest]; rfl
  · rw [ended.fill, rest]; rfl
  · rw [ended.diu, rest]; rfl
  · rw [ended.panel, rest]; rfl
  · rw [rest]; rfl
  · rw [rest]; exact .refl s

/-! ## Field lines (R56, R90) -/

theorem exec_headSeatedDrop (running : s.power = .running) (i : Nat) : exec (.headSeatedDrop i) s
    = .next (conclude s (takeHeadDrop i (takeLine (.head i) false s))) := by
  unfold exec execHeadSeatedDrop
  exact event_running _ s running

/-- A probe of a compartment that is not being filled. -/
theorem exec_highLevelProbeWet (running : s.power = .running) {i : Nat} (notFilling : filling? s ≠ some i)
    (still : (takeProbeWet i (takeLine (.probe i) true s)).fill = s.fill) : exec (.highLevelProbeWet i) s
      = .next (conclude s (takeProbeWet i (takeLine (.probe i) true s))) := by
  have effect : fillProbeWet i (takeProbeWet i (takeLine (.probe i) true s))
      = takeProbeWet i (takeLine (.probe i) true s) := by
    refine if_neg (fun h => notFilling ?_)
    rwa [filling?, still] at h
  rw [← effect]
  unfold exec execHighLevelProbeWet
  exact event_running _ s running

/-- What the pass engine does with a probe leaves the fill unit alone. -/
theorem takeProbeWet_fill (i : Nat) (s : State) : (takeProbeWet i s).fill = s.fill :=
  (takeProbeWet_work (Work.refl s) i).fill

/-- A head dropping that concerns no batch member, no member watched and no line still to come. -/
theorem takeHeadDrop_unheard {i : Nat} (h : (s.pass.phase = .gathering ∧ ∀ b ∈ s.pass.batch, b.index ≠ i)
    ∨ s.pass.phase = .none
    ∨ ((s.pass.phase = .dry ∨ s.pass.phase = .runDown ∨ s.pass.phase = .held ∨ s.pass.phase = .starved)
      ∧ i ∉ s.pass.late.heads)) : takeHeadDrop i s = s := by
  unfold takeHeadDrop
  obtain ⟨gathering, notMember⟩ | none | ⟨phase, notLate⟩ := h
  · rw [gathering]
    have absent : s.pass.batch.find? (fun b => b.index == i) = none :=
      List.find?_eq_none.mpr (fun b hb => by simpa using notMember b hb)
    simp only [dropUnseated, absent]
  · rw [none]
  · have unheard : recordLate .headUnseated i s = s := recordLate_of_not_late s _ _ notLate
    obtain phase | phase | phase | phase := phase <;> rw [phase] <;> exact unheard

/-- A batch member's head dropping: it leaves the batch, and the fault goes to the record (R56). -/
theorem takeHeadDrop_gathering {i : Nat} {b : BatchMember} (gathering : s.pass.phase = .gathering)
    (found : s.pass.batch.find? (fun x => x.index == i) = some b) :
    takeHeadDrop i s = raiseFault .headUnseated (some i) none (dropFromBatch b s) := by
  unfold takeHeadDrop
  rw [gathering]
  simp only [dropUnseated, found]

/-- In drain-down a member's line goes to the record (R102). -/
theorem recordMember_eq {i : Nat} {m : Member} (k : FaultKind) (hm : member? s.pass i = some m) :
    recordMember k i s = raiseFault k (some i) (some s.pass.stage) s := if_pos (by rw [hm]; rfl)

/-- A line taken off is off. -/
theorem lineOn_setLine8_false (m : Lines8) (i : Nat) : lineOn (setLine8 m i false) i = false := by
  by_cases named : 1 ≤ i ∧ i ≤ 8
  · have bit : i - 1 < 8 := by omega
    simp [lineOn, setLine8, lineMask, named, bit]
  · by_cases first : 1 ≤ i
    · simp [lineOn, BitVec.getLsbD_of_ge _ (i - 1) (show 8 ≤ i - 1 by omega)]
    · simp [lineOn, first]

/-! ## Batch members that leave (R49, R56, R57) -/

theorem dropFromBatch_returned (b : BatchMember) (s : State) : Returned s (dropFromBatch b s) :=
  (setPass_returned s _).trans (requestReturnChecked_returned b _)

theorem dropFromBatch_table (b : BatchMember) (s : State) :
    (dropFromBatch b s).job.table = returnedTable b s.job.table := requestReturnChecked_table b _

/-- The close check ends a batch still gathering, or leaves the pass. -/
theorem closeCheck_pass_cases (s : State) : (closeCheck s).pass = s.pass ∨ (closeCheck s).pass = Pass.idle := by
  unfold closeCheck
  dsimp only
  split
  · split
    · exact .inr rfl
    · refine .inl ?_
      unfold queueEvent
      split <;> rfl
  · exact .inl rfl

theorem dropFromBatch_pass (b : BatchMember) (s : State) : (dropFromBatch b s).pass = Pass.idle
    ∨ ((dropFromBatch b s).pass.phase = s.pass.phase ∧ (dropFromBatch b s).pass.window = s.pass.window
      ∧ (dropFromBatch b s).pass.batch = s.pass.batch.filter (fun x => x.index != b.index)) := by
  unfold dropFromBatch requestReturnChecked
  obtain same | idle := closeCheck_pass_cases (requestReturn b (s.setPass { s.pass with
    batch := s.pass.batch.filter (fun x => x.index != b.index)
    batchRecipe := if s.pass.batch.filter (fun x => x.index != b.index) = [] then none else s.pass.batchRecipe
    probe := if s.pass.batch.filter (fun x => x.index != b.index) = [] then false else s.pass.probe }))
  · right
    dsimp only
    rw [same]
    exact ⟨rfl, rfl, rfl⟩
  · exact .inl idle

end Sys2Proof.Machine
end

section
open Sys2Proof Sys2Proof.Machine

/-- Settles O21: the level alone, the batch member's return, or the fault record alone. -/
theorem linesThatRetireNoMember : Obligations.LinesThatRetireNoMember := by
  unfold Obligations.LinesThatRetireNoMember
  refine ⟨fun i s running => ⟨_, exec_headSeatedDrop running i, fun unheard => ?_,
    fun b gathering found empty => ?_⟩, ?_⟩
  · rw [takeHeadDrop_unheard (s := takeLine (.head i) false s) unheard]
    have k := conclude_same s (takeLine (.head i) false s) rfl
    rw [k.panel]
    exact ⟨lineOn_setLine8_false _ i, rfl, k.pass, k.job, k.sameDiuFillFaults rfl rfl rfl, k.sameShare rfl,
      k.sameModule (.refl s), k.sending rfl⟩
  · have index : b.index = i := by simpa using List.find?_some found
    let w := takeLine (.head i) false s
    rw [takeHeadDrop_gathering (s := w) gathering found]
    let v := dropFromBatch b w
    have returned : Returned w v := dropFromBatch_returned b w
    let u := raiseFault .headUnseated (some i) none v
    have rest : u = { v with faults := u.faults, line := u.line } := (raiseFault_rest .headUnseated _ _ v).1
    have dropped := dropFromBatch_pass b w
    have pass : u.pass = v.pass := by rw [rest]
    have phase : u.pass.phase = .none ∨ u.pass.phase = .gathering := by
      rw [pass]
      exact dropped.imp (congrArg Pass.phase) (fun h => h.1.trans gathering)
    have k : Concluded u (conclude s u) :=
      conclude_phase s u (by obtain h | h := phase <;> simp [h]) (by obtain h | h := phase <;> simp [h])
    obtain ⟨diu, fill, faults⟩ := returned.diuFillFaults
    have empty' : v.faults.record = none := by rw [faults]; exact empty
    have time : v.job.clock = s.job.clock := by rw [returned.rest]; rfl
    refine ⟨?_, ?_, ?_, ?_, ?_, k.sameShare ?_, k.sameModule ?_⟩
    · rw [k.pass, pass]
      refine dropped.imp_right (fun ⟨phase, window, batch⟩ => ⟨phase.trans gathering, window, ?_⟩)
      rw [batch, index]
      rfl
    · rw [k.job, show u.job = v.job by rw [rest]]
      exact (dropFromBatch_table b w).trans (by rw [returnedTable, index]; rfl)
    · rw [k.faults, raiseFault_empty .headUnseated _ _ empty', faultRecOf, time]
      rfl
    · rw [k.diu, show u.diu = v.diu by rw [rest]]
      exact diu
    · rw [k.fill, show u.fill = v.fill by rw [rest]]
      exact fill
    · rw [rest]
      exact returned.share
    · rw [rest]
      exact returned.sameModule
  · intro c k i m s running phase hm empty notFilling hc
    have recorded (p : Panel) := raiseFault_concluded (s := s) (k := k) (p := p) (d := s.diu) (l := s.pass.late) (some i)
    have done {p : Panel} (hk : k.source = .pass) (taken : exec c s = .next (conclude s
        (raiseFault k (some i) (some s.pass.stage) (s.setPanel p)))) : ∃ t, exec c s = .next t ∧ t.pass = s.pass
        ∧ t.job = s.job ∧ t.diu = s.diu ∧ t.fill = s.fill
        ∧ t.faults = { record := some { kind := k, source := .pass, compartment := some i,
                                        stage := some s.pass.stage, time := s.job.clock },
                       overflow := s.faults.overflow }
        ∧ SameShare s t ∧ SameModule s t := by
      obtain ⟨first, -, pass, job, fill, diu, panel, share, module⟩ := recorded p hk
      exact ⟨_, taken, pass, job, diu, fill, (first empty).1, share, module⟩
    obtain ⟨rfl, rfl⟩ | ⟨rfl, rfl⟩ := hc
    · refine done rfl (p := (takeLine (.head i) false s).panel) ?_
      rw [exec_headSeatedDrop running i]
      have effect : takeHeadDrop i (takeLine (.head i) false s) = recordMember .headUnseated i (takeLine (.head i) false s) := by
        simp [takeHeadDrop, takeLine, phase]
      rw [effect, recordMember_eq (s := takeLine (.head i) false s) .headUnseated hm]
      rfl
    · refine done rfl (p := (takeLine (.probe i) true s).panel) ?_
      rw [exec_highLevelProbeWet running notFilling (takeProbeWet_fill i _)]
      have effect : takeProbeWet i (takeLine (.probe i) true s) = recordMember .overflow i (takeLine (.probe i) true s) := by
        simp [takeProbeWet, takeLine, phase]
      rw [effect, recordMember_eq (s := takeLine (.probe i) true s) .overflow hm]
      rfl

end

section
/-! SUPPORT. Faults that find their member retiring or their pass aborting (R92, R102; log 32, 34). -/

namespace Sys2Proof.Machine

variable {s t u : State}

/-- A line still to come in this ms goes to the record. -/
theorem recordLate_of_late {k : FaultKind} {i : Nat} (late : i ∈ s.pass.late.lines k) : recordLate k i s =
    raiseFault k (some i) (some s.pass.stage) (s.setPass (s.pass.setLate (s.pass.late.spend k i))) :=
  if_pos (by simpa using late)

/-- The line of a member that is retiring is recorded where it is still to come. -/
theorem watchMember_retiring {k : FaultKind} {i : Nat} {m : Member} (hm : member? s.pass i = some m)
    (retiring : m.retiring.isSome = true) : watchMember k i s = recordLate k i s := by
  unfold watchMember
  rw [hm]
  exact if_pos retiring

/-- A line of a retiring member, or of any member in a run-down, short of drain-down (R90, R92). -/
theorem takeHeadDrop_late {i : Nat} {m : Member} (hm : member? s.pass i = some m) (notNone : s.pass.phase ≠ .none)
    (notGathering : s.pass.phase ≠ .gathering) (h : m.retiring.isSome = true ∨ s.pass.phase = .runDown)
    (notDrainDown : s.pass.phase ≠ .drainDown) : takeHeadDrop i s = recordLate .headUnseated i s := by
  unfold takeHeadDrop
  split
  case h_2 phase | h_3 phase | h_4 phase => exact watchMember_retiring hm (h.resolve_right (by simp [phase]))
  all_goals first | rfl | contradiction

theorem takeProbeWet_late {i : Nat} {m : Member} (hm : member? s.pass i = some m) (notNone : s.pass.phase ≠ .none)
    (notGathering : s.pass.phase ≠ .gathering) (h : m.retiring.isSome = true ∨ s.pass.phase = .runDown)
    (notDrainDown : s.pass.phase ≠ .drainDown) : takeProbeWet i s = recordLate .overflow i s := by
  unfold takeProbeWet
  split
  case h_1 phase =>
    unfold watchSpraying
    split
    · exact watchMember_retiring hm (h.resolve_right (by simp [phase]))
    · rfl
  all_goals first | rfl | contradiction

/-- While the pass is aborting a pass-scope fault is recorded alone (R92). -/
theorem passFault_of_aborting {k : FaultKind} {cls : Nat} {f : State → State} (abort : aborting s.pass = true) :
    passFault k cls f s = raiseFault k none (some s.pass.stage) s := by
  unfold passFault
  exact if_pos abort

theorem aborting_setLate (l : Late) (p : Pass) : aborting (p.setLate l) = aborting p := rfl

/-- A named channel that is lost is absent. -/
theorem namedAbsent_of_lost {ch : Channel} (named : names (stageOf s.pass).inspection ch = true) :
    namedAbsent (s.setDiu (updLoop ch Loop.lose s.diu)) = true := by
  have lost (x : Loop) : x.lose.present = false := by
    unfold Loop.lose
    split
    · rfl
    · simp_all
  cases ch with
  | conductivity => simp [namedAbsent, named, updLoop, lost]
  | turbidity => simp [namedAbsent, named, updLoop, lost]
  | temperature => cases h : (stageOf s.pass).inspection <;> simp [names, h] at named

/-- A change of presence leaves the window and the histories. -/
theorem updLoop_frame (ch : Channel) (f : Loop → Loop) (d : Diu) :
    (updLoop ch f d).window = d.window ∧ (updLoop ch f d).histories = d.histories := by
  cases ch <;> exact ⟨rfl, rfl⟩

/-- A channel lost in the ms of an abort (R92). -/
theorem sensorCheck_late (absent : namedAbsent s = true) (abort : aborting s.pass = true)
    (late : s.pass.late.sensor = true) : sensorCheck s = raiseFault .sensorAbsent none (some s.pass.stage)
      (s.setPass (s.pass.setLate { s.pass.late with sensor := false })) := by
  unfold sensorCheck
  rw [if_pos (by simp [sensorFaultLate, absent, abort, late])]
  exact passFault_of_aborting abort

end Sys2Proof.Machine
end

section
open Sys2Proof Sys2Proof.Machine

/-- Settles O23: every one of the events comes to `raiseFault` in the state with its own late line spent. -/
theorem secondFaultIsRecordedOnly : Obligations.SecondFaultIsRecordedOnly := by
  unfold Obligations.SecondFaultIsRecordedOnly
  intro c k comp s running room hc f
  have done {p : Panel} {d : Diu} {l : Late} (hk : k.source = .pass) (window : d.window = s.diu.window)
      (histories : d.histories = s.diu.histories)
      (taken : exec c s = .next (conclude s (raiseFault k comp (some s.pass.stage)
        (((s.setPanel p).setDiu d).setPass (s.pass.setLate l))))) : ∃ t, exec c s = .next t
        ∧ (s.faults.record = none → t.faults = { record := some f, overflow := s.faults.overflow }
            ∧ Sending (joined [.fault f] s) s t)
        ∧ (s.faults.record.isSome = true → t.faults = { s.faults with overflow := true }
            ∧ Sending s.line.fifo s t)
        ∧ t.pass = { s.pass with late := t.pass.late } ∧ t.job = s.job ∧ t.fill = s.fill
        ∧ t.diu.window = s.diu.window ∧ t.diu.histories = s.diu.histories ∧ SameShare s t ∧ SameModule s t := by
    obtain ⟨first, second, pass, job, fill, diu, -, share, module⟩ :=
      raiseFault_concluded (s := s) (k := k) (p := p) (d := d) (l := l) comp hk
    exact ⟨_, taken, fun empty => ⟨(first empty).1, (first empty).2 room⟩, second, by rw [pass]; rfl, job, fill,
      by rw [diu]; exact window, by rw [diu]; exact histories, share, module⟩
  obtain ⟨i, m, rfl, hm, distinct, notNone, notGathering, retiring, late, line⟩ | ⟨rfl, abort, fault⟩ := hc
  · obtain ⟨rfl, rfl⟩ | ⟨rfl, rfl, notFilling⟩ := line
    · let w := takeLine (.head i) false s
      rw [exec_headSeatedDrop running i] at done ⊢
      by_cases drainDown : s.pass.phase = .drainDown
      · refine done (p := w.panel) (d := s.diu) (l := s.pass.late) rfl rfl rfl ?_
        have effect : takeHeadDrop i w = recordMember .headUnseated i w := by simp [takeHeadDrop, w, takeLine, drainDown]
        rw [effect, recordMember_eq (s := w) .headUnseated hm]
        rfl
      · refine done (p := w.panel) (d := s.diu) (l := s.pass.late.spend .headUnseated i) rfl rfl rfl ?_
        rw [takeHeadDrop_late (s := w) hm notNone notGathering retiring drainDown,
          recordLate_of_late (s := w) (late.resolve_left drainDown)]
        rfl
    · let w := takeLine (.probe i) true s
      rw [exec_highLevelProbeWet running notFilling (takeProbeWet_fill i _)] at done ⊢
      by_cases drainDown : s.pass.phase = .drainDown
      · refine done (p := w.panel) (d := s.diu) (l := s.pass.late) rfl rfl rfl ?_
        have effect : takeProbeWet i w = recordMember .overflow i w := by simp [takeProbeWet, w, takeLine, drainDown]
        rw [effect, recordMember_eq (s := w) .overflow hm]
        rfl
      · refine done (p := w.panel) (d := s.diu) (l := s.pass.late.spend .overflow i) rfl rfl rfl ?_
        rw [takeProbeWet_late (s := w) hm notNone notGathering retiring drainDown,
          recordLate_of_late (s := w) (late.resolve_left drainDown)]
        rfl
  · have aborts : aborting s.pass = true := abort
    obtain ⟨rfl, rfl⟩ | ⟨rfl, rfl⟩ | ⟨ch, rfl, rfl, named, late⟩ := fault
    · refine done (p := s.panel) (d := s.diu) (l := { s.pass.late with timeDue := false }) rfl rfl rfl ?_
      have effect : reachTimeLimit s = raiseFault .stageTime none (some s.pass.stage)
          (s.setPass (s.pass.setLate { s.pass.late with timeDue := false })) := by
        unfold reachTimeLimit
        rw [if_pos (.inl aborts)]
        exact passFault_of_aborting aborts
      unfold exec execStageTime
      rw [event_running _ s running, effect]
      rfl
    · refine done (p := s.panel) (d := s.diu) (l := { s.pass.late with low := none }) rfl rfl rfl ?_
      have effect : reachTempLow s = raiseFault .tempLow none (some s.pass.stage)
          (s.setPass (s.pass.setLate { s.pass.late with low := none })) := by
        unfold reachTempLow
        rw [if_pos (.inl aborts)]
        exact passFault_of_aborting aborts
      unfold exec execTempLow
      rw [event_running _ s running, effect]
      rfl
    · obtain ⟨window, histories⟩ := updLoop_frame ch Loop.lose s.diu
      refine done (p := s.panel) (d := updLoop ch Loop.lose s.diu) (l := { s.pass.late with sensor := false }) rfl window
        histories ?_
      have effect := sensorCheck_late (namedAbsent_of_lost named) (s := s.setDiu (updLoop ch Loop.lose s.diu)) aborts late
      refine Eq.trans ?_ (congrArg (fun u => Host.Outcome.next (conclude s u)) effect)
      unfold exec execChannelAbsent
      exact event_running _ s running

end

section
/-! SUPPORT. The job unit's answers to the office (R16 to R26, R36 to R39). -/

namespace Sys2Proof.Machine

variable {s t u : State} {j : JobUnit} {l : List Notice}

/-- `u` is `s` with the job unit at `j` and the FIFO at `l`: nothing else that a frame of the office can change. -/
structure Answered (s u : State) (j : JobUnit) (l : List Notice) : Prop where
  rest : u = { s with job := j, line := u.line }
  fifo : u.line.fifo = l
  bus : u.line.bus = s.line.bus

theorem Answered.refl (s : State) : Answered s s s.job s.line.fifo := ⟨rfl, rfl, rfl⟩

theorem Answered.setJob (h : Answered s u j l) (k : JobUnit) : Answered s (u.setJob k) k l :=
  ⟨by rw [h.rest]; rfl, h.fifo, h.bus⟩

theorem queueEvent_answered (n : Notice) (room : FifoBounded s) : Answered s (queueEvent n s) s.job (joined [n] s) := by
  obtain ⟨l, hl, fifo⟩ := queueEvent_joins n s room
  refine ⟨by rw [hl]; rfl, by rw [hl]; exact fifo, ?_⟩
  unfold queueEvent
  split <;> rfl

theorem respond_answered (tag : List Byte) (o : JobOutcome) (number : Nat) (detail : List Nat) (room : FifoBounded s) :
    Answered s (respond tag o number detail s) s.job
      (joined [.jobResponse { tag := tag, outcome := o, number := number, detail := detail }] s) :=
  queueEvent_answered _ room

/-- An answer to the end of its event. -/
theorem Answered.concluded (h : Answered s u j l) :
    let t := conclude s u
    t.job = j ∧ t.line.fifo = l ∧ t.line.bus = s.line.bus ∧ t.pass = s.pass ∧ SameDiuFillFaults s t
    ∧ t.panel = s.panel ∧ SameShare s t ∧ SameModule s t := by
  obtain ⟨rest, fifo, bus⟩ := h
  have k := conclude_same s u (by rw [rest]; rfl)
  obtain ⟨fifo', bus'⟩ := k.sending (s := s) bus
  refine ⟨?_, fifo'.trans fifo, bus', ?_, k.sameDiuFillFaults ?_ ?_ ?_, ?_, k.sameShare ?_, k.sameModule ?_⟩
  · rw [k.job, rest]
  · rw [k.pass, rest]
  · rw [rest]
  · rw [rest]
  · rw [rest]
  · rw [k.panel, rest]
  · rw [rest]
  · rw [rest]; exact .refl s

/-! ## Headers (R16, R19) -/

/-- The job unit with an assembly of empty slots begun. -/
def begunJob (h : Header) (priorClosed : Bool) (s : State) : JobUnit :=
  { s.job with
    state := .assembling
    assembly := some { header := h, slots := List.replicate h.count none, priorClosed := priorClosed,
                       deadline := 2000 } }

theorem beginAssembly_answered (h : Header) (priorClosed : Bool) (a : Answered s u s.job l) :
    Answered s (beginAssembly h priorClosed u) (begunJob h priorClosed s) l := by
  have job : u.job = s.job := by rw [a.rest]
  have begun : beginAssembly h priorClosed u = u.setJob (begunJob h priorClosed s) := by
    unfold beginAssembly
    rw [job]
    rfl
  rw [begun]
  exact a.setJob _

theorem refuse_answered (h : Header) (r : JobRefusal) (room : FifoBounded s) :
    Answered s (respond h.tag (.refused r) 0 [] s) s.job
      (joined [.jobResponse { tag := h.tag, outcome := .refused r, number := 0, detail := [] }] s) :=
  respond_answered _ _ _ _ room

theorem takeHeader_busy (h : Header) (runs : s.job.state = .opened ∨ s.job.state = .releasing) :
    takeHeader h s = respond h.tag (.refused .busy) 0 [] s := by
  obtain state | state := runs <;> simp [takeHeader, state]

theorem takeHeader_noAssembly (h : Header) (assembling : s.job.state = .assembling) (none : s.job.assembly = none) :
    takeHeader h s = s := by simp [takeHeader, assembling, none]

theorem takeHeader_assembling (h : Header) {a : Assembly} (assembling : s.job.state = .assembling)
    (ha : s.job.assembly = some a) : takeHeader h s =
      if 1 ≤ h.count ∧ h.count ≤ 8 then
        beginAssembly h a.priorClosed (respond a.header.tag (.refused .superseded) 0 [] s)
      else respond h.tag (.refused .badCount) 0 [] s := by simp only [takeHeader, assembling, ha]

theorem takeHeader_idle (h : Header) (idle : ¬ (s.job.state = .opened ∨ s.job.state = .releasing))
    (notAssembling : s.job.state ≠ .assembling) : takeHeader h s =
      if 1 ≤ h.count ∧ h.count ≤ 8 then beginAssembly h (decide (s.job.state = .closed)) s
      else respond h.tag (.refused .badCount) 0 [] s := by
  cases state : s.job.state <;> simp_all [takeHeader]

/-! ## The deadline (R22) -/

/-- The job unit back in its prior state. -/
def droppedJob (a : Assembly) (s : State) : JobUnit :=
  { s.job with state := if a.priorClosed then .closed else .noJob, assembly := none }

theorem dropAssembly_answered (a : Assembly) (h : Answered s u s.job l) :
    Answered s (dropAssembly a u) (droppedJob a s) l := by
  have job : u.job = s.job := by rw [h.rest]
  have dropped : dropAssembly a u = u.setJob (droppedJob a s) := by
    unfold dropAssembly
    rw [job]
    rfl
  rw [dropped]
  exact h.setJob _

theorem deadlineExpires_assembling {a : Assembly} (assembling : s.job.state = .assembling)
    (ha : s.job.assembly = some a) : deadlineExpires s =
      dropAssembly a (respond a.header.tag (.refused .incomplete) 0 [] s) := by
  simp only [deadlineExpires, assembling, ha]

theorem deadlineExpires_noAssembly (h : ¬ (s.job.state = .assembling ∧ ∃ a, s.job.assembly = some a)) :
    deadlineExpires s = s := by
  unfold deadlineExpires
  split
  case h_1 a assembling ha => exact absurd ⟨assembling, a, ha⟩ h
  case h_2 => rfl

theorem exec_assemblyDeadlineExpiry (running : s.power = .running) : exec .assemblyDeadlineExpiry s
    = .next (conclude s (deadlineExpires s)) := by
  unfold exec execAssemblyDeadlineExpiry
  exact event_running _ s running

theorem exec_jobPostHeader (f : Frame) (running : s.power = .running) : exec (.jobPostHeader f) s
    = .next (conclude s (if takenFromOffice 3 8 f s then takeJobHeader f s else s)) := by
  unfold exec execJobPostHeader
  exact event_running _ s running

end Sys2Proof.Machine
end

section
open Sys2Proof Sys2Proof.Machine

/-- Settles O46: the header and the deadline's expiry by the job state, each an answer, an assembly begun, or both. -/
theorem jobHeaderByState : Obligations.JobHeaderByState := by
  unfold Obligations.JobHeaderByState
  intro s running room
  have done {u : State} {j : JobUnit} {l : List Notice} {P : Prop} (a : Answered s u j l)
      (claim : (conclude s u).job = j → (conclude s u).line.fifo = l → P) :
      (conclude s u).pass = s.pass ∧ SameDiuFillFaults s (conclude s u) ∧ (conclude s u).panel = s.panel
      ∧ SameShare s (conclude s u) ∧ SameModule s (conclude s u) ∧ P := by
    obtain ⟨job, fifo, -, pass, diu, panel, share, module⟩ := a.concluded
    exact ⟨pass, diu, panel, share, module, claim job fifo⟩
  refine ⟨fun f => ⟨_, exec_jobPostHeader f running, ?_⟩, ?_⟩
  · by_cases filtered : takenFromOffice 3 8 f s
    case neg =>
      rw [if_neg filtered]
      refine done (.refl s) (fun job fifo => ?_)
      intro h answer begun
      rw [if_pos filtered]
      exact ⟨job, fifo⟩
    case pos =>
    rw [if_pos filtered]
    have refused {r : JobRefusal} := refuse_answered (s := s) (readHeader f) r room
    by_cases inService : s.reader.mark = .inService
    case neg =>
      have effect : takeJobHeader f s = _ := if_neg inService
      rw [effect]
      refine done refused (fun job fifo => ?_)
      intro h answer begun
      rw [if_neg (not_not.mpr filtered), if_pos inService]
      exact ⟨job, fifo⟩
    case pos =>
    have effect : takeJobHeader f s = takeHeader (readHeader f) s := if_pos inService
    rw [effect]
    by_cases runs : s.job.state = .opened ∨ s.job.state = .releasing
    case pos =>
      rw [takeHeader_busy _ runs]
      refine done refused (fun job fifo => ?_)
      intro h answer begun
      rw [if_neg (not_not.mpr filtered), if_neg (not_not.mpr inService), if_pos runs]
      exact ⟨job, fifo⟩
    case neg =>
    by_cases assembling : s.job.state = .assembling
    case pos =>
      obtain a | ⟨a, ha⟩ := Option.eq_none_or_eq_some s.job.assembly
      · rw [takeHeader_noAssembly _ assembling a]
        refine done (.refl s) (fun job fifo => ?_)
        intro h answer begun
        rw [if_neg (not_not.mpr filtered), if_neg (not_not.mpr inService), if_neg runs, if_pos assembling]
        intro a' ha'
        rw [a] at ha'
        cases ha'
      · rw [takeHeader_assembling _ assembling ha]
        by_cases count : 1 ≤ (readHeader f).count ∧ (readHeader f).count ≤ 8
        · rw [if_pos count]
          refine done (beginAssembly_answered _ _ (refuse_answered a.header .superseded room)) (fun job fifo => ?_)
          intro h answer begun
          rw [if_neg (not_not.mpr filtered), if_neg (not_not.mpr inService), if_neg runs, if_pos assembling]
          intro a' ha'
          obtain rfl : a = a' := by rwa [ha, Option.some.injEq] at ha'
          rw [if_pos count]
          exact ⟨job, fifo⟩
        · rw [if_neg count]
          refine done refused (fun job fifo => ?_)
          intro h answer begun
          rw [if_neg (not_not.mpr filtered), if_neg (not_not.mpr inService), if_neg runs, if_pos assembling]
          intro a' ha'
          rw [if_neg count]
          exact ⟨job, fifo⟩
    case neg =>
    rw [takeHeader_idle _ runs assembling]
    by_cases count : 1 ≤ (readHeader f).count ∧ (readHeader f).count ≤ 8
    · rw [if_pos count]
      refine done (beginAssembly_answered _ _ (.refl s)) (fun job fifo => ?_)
      intro h answer begun
      rw [if_neg (not_not.mpr filtered), if_neg (not_not.mpr inService), if_neg runs, if_neg assembling, if_pos count]
      exact ⟨job, fifo⟩
    · rw [if_neg count]
      refine done refused (fun job fifo => ?_)
      intro h answer begun
      rw [if_neg (not_not.mpr filtered), if_neg (not_not.mpr inService), if_neg runs, if_neg assembling, if_neg count]
      exact ⟨job, fifo⟩
  · refine ⟨_, exec_assemblyDeadlineExpiry running, ?_⟩
    by_cases expires : s.job.state = .assembling ∧ ∃ a, s.job.assembly = some a
    case neg =>
      rw [deadlineExpires_noAssembly expires]
      exact done (.refl s) (fun job fifo => ⟨fun _ => ⟨job, fifo⟩,
        fun a assembling ha => absurd ⟨assembling, a, ha⟩ expires⟩)
    case pos =>
    obtain ⟨assembling, a, ha⟩ := expires
    rw [deadlineExpires_assembling assembling ha]
    refine done (dropAssembly_answered a (respond_answered _ _ _ _ room)) (fun job fifo =>
      ⟨fun h => absurd assembling h, fun a' _ ha' => ?_⟩)
    obtain rfl : a = a' := by rwa [ha, Option.some.injEq] at ha'
    exact ⟨job, fifo⟩

end

section
/-! SUPPORT. Assembly and acceptance of a job (R21, R23 to R25). -/

namespace Sys2Proof.Machine

variable {s t u : State} {j : JobUnit} {l : List Notice}

/-! ## Slots (R21, R23) -/

theorem fullSlots_of_empty {l : List (Option Slot)} (h : none ∈ l) : fullSlots l = none := by
  induction l with
  | nil => cases h
  | cons x l ih =>
    cases x with
    | none => rfl
    | some y => simp [fullSlots, ih (by simpa using h)]

theorem fullSlots_of_full (l : List Slot) : fullSlots (l.map some) = some l := by
  induction l with
  | nil => rfl
  | cons x l ih => simp [fullSlots, ih]

theorem exists_full {slots : List (Option Slot)} (h : none ∉ slots) : ∃ l : List Slot, slots = l.map some := by
  induction slots with
  | nil => exact ⟨[], rfl⟩
  | cons x slots ih =>
    obtain ⟨l, rfl⟩ := ih (fun hm => h (List.mem_cons_of_mem _ hm))
    cases x with
    | none => exact absurd List.mem_cons_self h
    | some y => exact ⟨y :: l, rfl⟩

theorem badVolume_of_good {l : List Slot} (n : Nat) (good : ∀ y ∈ l, 500 ≤ y.volume ∧ y.volume ≤ 20000) :
    badVolume n l = none := by
  induction l generalizing n with
  | nil => rfl
  | cons x l ih =>
    rw [badVolume, if_pos (good x List.mem_cons_self)]
    exact ih (n + 1) (fun y hy => good y (List.mem_cons_of_mem _ hy))

/-- The lowest index of a bad volume. -/
theorem badVolume_of_first {l : List Slot} {k : Nat} {y : Slot} (n : Nat) (hy : l[k]? = some y)
    (bad : y.volume < 500 ∨ 20000 < y.volume)
    (good : ∀ j z, j < k → l[j]? = some z → 500 ≤ z.volume ∧ z.volume ≤ 20000) : badVolume n l = some (n + k) := by
  induction l generalizing n k with
  | nil => simp at hy
  | cons x l ih =>
    cases k with
    | zero =>
      obtain rfl : x = y := by simpa using hy
      rw [badVolume, if_neg (by omega), Nat.add_zero]
    | succ k =>
      rw [badVolume, if_pos (good 0 x (by omega) rfl),
        ih (n + 1) (by simpa using hy) (fun j z hj hz => good (j + 1) z (by omega) (by simpa using hz))]
      congr 1
      omega

/-! ## The table (R24) -/

theorem makeTable_length (s : State) (n : Nat) (l : List Slot) : (makeTable s n l).length = l.length := by
  induction l generalizing n with
  | nil => rfl
  | cons x l ih => simp [makeTable, ih]

theorem makeTable_getElem? {l : List Slot} {k : Nat} {x : Slot} (n : Nat) (hx : l[k]? = some x) :
    (makeTable s n l)[k]? = some (makeCompartment s (n + k) x) := by
  induction l generalizing n k with
  | nil => simp at hx
  | cons y l ih =>
    cases k with
    | zero =>
      obtain rfl : y = x := by simpa using hx
      rfl
    | succ k =>
      rw [makeTable, List.getElem?_cons_succ, ih (n + 1) (by simpa using hx)]
      congr 2
      omega

/-! ## Acceptance (R25, R32) -/

theorem Answered.fifo_bounded {ms : List Notice} (h : Answered s u j (joined ms s)) : FifoBounded u := by
  rw [FifoBounded, h.fifo]
  exact joined_bounded _ _

/-- A notice behind an answer. -/
theorem Answered.queueEvent {ms : List Notice} (h : Answered s u j (joined ms s)) (n : Notice) :
    Answered s (queueEvent n u) j (joined (ms ++ [n]) s) := by
  obtain ⟨rest, fifo, bus⟩ := queueEvent_answered n h.fifo_bounded
  refine ⟨?_, fifo.trans (joined_append h.fifo [n]), bus.trans h.bus⟩
  rw [rest, h.rest]

/-- The job unit with the job accepted. -/
def acceptedJob (a : Assembly) (slots : List Slot) (s : State) : JobUnit where
  state := .opened
  record := some { tag := a.header.tag, count := a.header.count, minGrade := a.header.minGrade,
                   tolerance := a.header.tolerance, verify := a.header.verify, detect := a.header.detect,
                   number := nextJobNumber s.job.lastNumber }
  table := makeTable s 1 slots
  assembly := none
  supplyTally := 0
  agentTally := 0
  effluentTally := 0
  productTally := 0
  clock := 0
  clockSub := 0
  passCounter := 0
  lastNumber := nextJobNumber s.job.lastNumber

/-- The compartments that a job accepted lists as BARRED. -/
def barredIndexes (table : List Compartment) : List Nat :=
  (table.filter (fun c => decide (c.state = .barred))).map (·.index)

/-- The answer to a job accepted. -/
def acceptNotice (a : Assembly) (slots : List Slot) (s : State) : Notice :=
  .jobResponse { tag := a.header.tag, outcome := .accepted, number := nextJobNumber s.job.lastNumber,
                 detail := barredIndexes (makeTable s 1 slots) }

/-- A job accepted is OPEN, or CLOSED at once where every compartment is terminal (R32). -/
theorem acceptJob_answered (a : Assembly) (slots : List Slot) (room : FifoBounded s) (inNone : s.pass.phase = .none) :
    ∃ state rest, Answered s (acceptJob a slots s) { acceptedJob a slots s with state := state }
        (joined (acceptNotice a slots s :: rest) s)
      ∧ (state = .opened ∧ rest = [] ∨ state = .closed
        ∧ rest = [.jobReport (nextJobNumber s.job.lastNumber) .complete]
        ∧ ∀ c ∈ makeTable s 1 slots, terminal c = true) := by
  let v := respond a.header.tag .accepted (nextJobNumber s.job.lastNumber)
    (barredIndexes (makeTable s 1 slots)) (s.setJob (acceptedJob a slots s))
  have answered : Answered s v (acceptedJob a slots s) (joined [acceptNotice a slots s] s) := by
    obtain ⟨rest, fifo, bus⟩ := respond_answered (s := s.setJob (acceptedJob a slots s)) a.header.tag .accepted
      (nextJobNumber s.job.lastNumber)
      (barredIndexes (makeTable s 1 slots)) room
    exact ⟨by rw [show v = _ from rest]; rfl, fifo, bus⟩
  have effect : acceptJob a slots s = closeCheck v := rfl
  rw [effect]
  have job : v.job = acceptedJob a slots s := by rw [answered.rest]
  by_cases complete : JobComplete v
  case neg => exact ⟨.opened, [], by rwa [closeCheck_of_incomplete complete], .inl ⟨rfl, rfl⟩⟩
  case pos =>
  have reported := answered.queueEvent (.jobReport (jobNumber v) .complete)
  obtain ⟨l, hl, -⟩ := queueEvent_joins (.jobReport (jobNumber v) .complete) v answered.fifo_bounded
  have pass : v.pass = s.pass := by rw [answered.rest]
  have number : jobNumber v = nextJobNumber s.job.lastNumber := by rw [jobNumber, job]; rfl
  rw [closeCheck_of_complete complete hl, ← hl, if_neg (by rw [pass, inNone]; exact nofun), job]
  rw [number] at reported ⊢
  obtain ⟨rest, fifo, bus⟩ := reported.setJob { acceptedJob a slots s with state := .closed }
  refine ⟨.closed, _, ⟨?_, fifo, bus⟩, .inr ⟨rfl, rfl, fun c hc => ?_⟩⟩
  · rw [rest, pass]
    rfl
  · have all := complete.2
    rw [job] at all
    exact List.all_eq_true.mp all c hc

/-- The slot taken in the assembly. -/
theorem takeSlot_assembling {a : Assembly} {i : Nat} (x : Slot) (assembling : s.job.state = .assembling)
    (ha : s.job.assembly = some a) (inRange : 1 ≤ i ∧ i ≤ a.header.count) : takeSlot i x s =
      match fullSlots (a.slots.set (i - 1) (some x)) with
      | some slots => checkAssembly { a with slots := a.slots.set (i - 1) (some x) } slots s
      | none => s.setJob { s.job with assembly := some { a with slots := a.slots.set (i - 1) (some x) } } := by
  simp only [takeSlot, assembling, ha, inRange, and_self, if_true] <;> rfl

theorem takeSlot_ignored {a : Assembly} {i : Nat} (x : Slot) (assembling : s.job.state = .assembling)
    (ha : s.job.assembly = some a) (outOfRange : ¬ (1 ≤ i ∧ i ≤ a.header.count)) : takeSlot i x s = s := by
  simp only [takeSlot, assembling, ha, outOfRange, if_false]

theorem exec_jobPostCompartment {f : Frame} (running : s.power = .running) (filtered : takenFromOffice 4 7 f s) :
    exec (.jobPostCompartment f) s = .next (conclude s (takeSlot (readIndex f) (readSlot f) s)) := by
  have effect : (if takenFromOffice 4 7 f s then takeSlot (readIndex f) (readSlot f) s else s)
      = takeSlot (readIndex f) (readSlot f) s := if_pos filtered
  rw [← effect]
  unfold exec execJobPostCompartment
  exact event_running _ s running

end Sys2Proof.Machine
end

section
open Sys2Proof Sys2Proof.Machine

/-- Settles O47: the frame is ignored, fills a slot, or fills the last one: then the lowest bad volume is answered, or
the job is accepted. -/
theorem compartmentFramesBuildTheJob : Obligations.CompartmentFramesBuildTheJob := by
  unfold Obligations.CompartmentFramesBuildTheJob
  intro f s a running room inNone assembling ha filtered
  have taken := exec_jobPostCompartment running filtered
  have done {u : State} {j : JobUnit} {l : List Notice} {P : Prop} (h : Answered s u j l)
      (claim : (conclude s u).job = j → (conclude s u).line.fifo = l → P) :
      (conclude s u).pass = s.pass ∧ SameDiuFillFaults s (conclude s u) ∧ (conclude s u).panel = s.panel
      ∧ SameShare s (conclude s u) ∧ SameModule s (conclude s u) ∧ P := by
    obtain ⟨job, fifo, -, pass, diu, panel, share, module⟩ := h.concluded
    exact ⟨pass, diu, panel, share, module, claim job fifo⟩
  refine ⟨_, taken, ?_⟩
  by_cases inRange : 1 ≤ readIndex f ∧ readIndex f ≤ a.header.count
  case neg =>
    rw [takeSlot_ignored _ assembling ha inRange]
    exact done (.refl s) (fun job fifo => ⟨fun _ => ⟨job, fifo⟩, fun h1 h2 => absurd ⟨h1, h2⟩ inRange⟩)
  case pos =>
  rw [takeSlot_assembling _ assembling ha inRange]
  generalize a.slots.set (readIndex f - 1) (some (readSlot f)) = slots
  by_cases open' : none ∈ slots
  case pos =>
    rw [fullSlots_of_empty open']
    refine done ((Answered.refl s).setJob _) (fun job fifo => ⟨fun h => by omega, fun _ _ => ⟨fun _ => ⟨job, fifo⟩,
      fun l k y full => ?_, fun l full => ?_⟩⟩)
    all_goals simp [full] at open'
  case neg =>
  obtain ⟨l, rfl⟩ := exists_full open'
  rw [fullSlots_of_full]
  have same {l' : List Slot} (h : l.map some = l'.map some) : l = l' :=
    List.map_injective_iff.mpr (Option.some_injective _) h
  dsimp only
  unfold checkAssembly
  cases first : badVolume 1 l with
  | some i =>
    refine done (dropAssembly_answered _ (respond_answered _ _ _ _ room)) (fun job fifo => ⟨fun h => by omega,
      fun _ _ => ⟨fun h => absurd h open', fun l' k y full hy bad good => ?_, fun l' full good => ?_⟩⟩)
    · obtain rfl := same full
      have lowest := badVolume_of_first 1 hy bad good
      rw [first, Option.some.injEq, Nat.add_comm] at lowest
      rw [← lowest]
      exact ⟨job, fifo⟩
    · obtain rfl := same full
      rw [badVolume_of_good 1 good] at first
      cases first
  | none =>
    have notBad {k : Nat} {y : Slot} (hy : l[k]? = some y) (bad : y.volume < 500 ∨ 20000 < y.volume)
        (good : ∀ j z, j < k → l[j]? = some z → 500 ≤ z.volume ∧ z.volume ≤ 20000) : False := by
      rw [badVolume_of_first 1 hy bad good] at first
      cases first
    have row {k : Nat} {x : Slot} {c : Compartment} (hx : l[k]? = some x) (hc : (makeTable s 1 l)[k]? = some c) :
        c = makeCompartment s (k + 1) x := by
      rw [makeTable_getElem? 1 hx, Option.some.injEq, Nat.add_comm] at hc
      exact hc.symm
    obtain ⟨state, rest, answered, ends⟩ := acceptJob_answered { a with slots := l.map some } l room inNone
    refine done answered (fun job fifo => ⟨fun h => by omega, fun _ _ => ⟨fun h => absurd h open',
      fun l' k y full hy bad good => ?_, fun l' full good => ?_⟩⟩)
    · obtain rfl := same full
      exact (notBad hy bad good).elim
    · obtain rfl := same full
      rw [job]
      refine ⟨ends.imp (·.1) (fun ⟨h, _, all⟩ => ⟨h, all⟩), rfl, rfl, ⟨rest, fifo, ends.imp (·.2) (·.2.1)⟩, rfl, rfl, rfl,
        rfl, makeTable_length s 1 l, fun k x c hx hc => ?_⟩
      rw [row hx hc]
      exact ⟨rfl, rfl, rfl, rfl, rfl, rfl, by simp [makeCompartment], rfl, rfl, rfl, rfl, rfl⟩

end

section
/-! SUPPORT. What the end of an event leaves of the share unit in every phase, and the peer table (R157, R158, R163). -/

namespace Sys2Proof.Machine

variable {s t u : State}

/-! ## The share unit at the end of an event -/

/-- Whatever the look at the conditions leads to, it is the engine's work. -/
theorem lookConditions_work (s0 s : State) : ∃ b, Work (reported b s) (lookConditions s0 s) := by
  have same : Work (reported s.share.starved s) s := Work.refl s
  have reports : ∃ b, Work (reported b s) (reportStarvation s) := by
    unfold reportStarvation
    dsimp only
    split
    · split
      · exact ⟨_, same⟩
      · refine ⟨true, ?_⟩
        split
        · exact runDownToStarved_work (Work.refl _)
        · exact Work.refl _
    · exact ⟨false, Work.refl _⟩
  unfold lookConditions lookResumption
  split
  · obtain ⟨b, h⟩ := reports
    refine ⟨b, ?_⟩
    split
    · exact runSpray_work h
    · exact h
  · exact ⟨_, same⟩

/-- The end of an event forms the own demand, its refresh timer and the starvation reported, and a SPRAY that it takes
up or ends moves the steady timer: the rest of the share unit stands. -/
theorem conclude_share (s0 s : State) : (conclude s0 s).share = { s.share with
    own := (conclude s0 s).share.own, refresh := (conclude s0 s).share.refresh
    starved := (conclude s0 s).share.starved, steady := (conclude s0 s).share.steady
    steadyFlag := (conclude s0 s).share.steadyFlag } := by
  obtain ⟨b, worked⟩ := lookConditions_work s0 s
  obtain ⟨steady, flag, looked⟩ := worked.share
  obtain ⟨-, -, -, ended⟩ := sent_ends s0 (lookConditions s0 s)
  have share : (conclude s0 s).share = (sendNext (refreshStatus s0 (formDemand s0 (lookConditions s0 s)))).share := rfl
  rw [share, ended, looked]
  rfl

theorem conclude_reader (s0 s : State) : (conclude s0 s).power = s.power ∧ (conclude s0 s).reader = s.reader
    ∧ (conclude s0 s).fill = s.fill ∧ (conclude s0 s).pending = s.pending := by
  obtain ⟨b, worked⟩ := lookConditions_work s0 s
  obtain ⟨rest, -, -, -⟩ := sent_ends s0 (lookConditions s0 s)
  have power := worked.power
  have reader := worked.reader
  have fill := worked.fill
  have pending := worked.pending
  unfold conclude driveOutputs
  rw [rest]
  exact ⟨power, reader, fill, pending⟩

/-- Both shares are what the record, the plant, the lockout and the peer table give (R163). -/
structure Computed (s : State) : Prop where
  hot : s.share.hotShare = ownShare s s.share.hotCap Demand.hot
  eff : s.share.effShare = ownShare s s.share.effCap Demand.eff

theorem ownShare_congr (reader : t.reader = s.reader) (lockout : t.share.lockout = s.share.lockout)
    (stale : t.share.stale = s.share.stale) (plant : t.share.plant = s.share.plant)
    (peers : t.share.peers = s.share.peers) (capacity : Nat) (demand : Demand → Nat) :
    ownShare t capacity demand = ownShare s capacity demand := by
  unfold ownShare capacityUsed fresh nodeOf modeOf
  rw [reader, lockout, stale, plant, peers]

theorem recompute_computed (s : State) : Computed (recompute s) := ⟨rfl, rfl⟩

/-- Shares computed stand to the end of their event. -/
theorem Computed.concluded (h : Computed u) (s0 : State) : Computed (conclude s0 u) := by
  have share := conclude_share s0 u
  obtain ⟨-, reader, -⟩ := conclude_reader s0 u
  generalize conclude s0 u = t at *
  have same (capacity : Nat) (demand : Demand → Nat) : ownShare t capacity demand = ownShare u capacity demand :=
    ownShare_congr reader (by rw [share]) (by rw [share]) (by rw [share]) (by rw [share]) capacity demand
  constructor
  · rw [same, share]
    exact h.hot
  · rw [same, share]
    exact h.eff

/-! ## The peer table -/

theorem find?_dropPeer_same (n : Nat) (l : List Peer) : (dropPeer n l).find? (fun p => p.node == n) = none := by
  simp [dropPeer, List.find?_eq_none]

theorem find?_dropPeer_other {m n : Nat} (other : m ≠ n) (l : List Peer) :
    (dropPeer n l).find? (fun p => p.node == m) = l.find? (fun p => p.node == m) := by
  rw [dropPeer, List.find?_filter]
  congr 1
  funext p
  by_cases h : p.node = m <;> simp [h, other]

theorem find?_insertNode_same {x : Peer} {l : List Peer} (absent : l.find? (fun p => p.node == x.node) = none) :
    (insertNode x l).find? (fun p => p.node == x.node) = some x := by
  induction l with
  | nil => simp [insertNode]
  | cons y l ih =>
    obtain ⟨notHead, rest⟩ : y.node ≠ x.node ∧ l.find? (fun p => p.node == x.node) = none := by
      by_cases head : y.node = x.node
      · simp [head] at absent
      · simpa [List.find?_cons, head] using absent
    rw [insertNode]
    split
    · simp
    · rw [List.find?_cons_of_neg (by simpa using notHead)]
      exact ih rest

theorem find?_insertNode_other {m : Nat} {x : Peer} (other : x.node ≠ m) (l : List Peer) :
    (insertNode x l).find? (fun p => p.node == m) = l.find? (fun p => p.node == m) := by
  induction l with
  | nil => simp [insertNode, other]
  | cons y l ih =>
    rw [insertNode]
    split
    · exact List.find?_cons_of_neg (by simpa using other)
    · simp only [List.find?_cons, ih]

theorem find?_putPeer_same (n : Nat) (d : Demand) (l : List Peer) :
    (putPeer n d l).find? (fun p => p.node == n) = some { node := n, demand := d, silence := 3000 } :=
  find?_insertNode_same (x := { node := n, demand := d, silence := Config.silenceTime }) (find?_dropPeer_same n l)

theorem find?_putPeer_other {m n : Nat} (other : m ≠ n) (d : Demand) (l : List Peer) :
    (putPeer n d l).find? (fun p => p.node == m) = l.find? (fun p => p.node == m) :=
  (find?_insertNode_other (by exact other.symm) _).trans (find?_dropPeer_other other l)

/-- Another peer table: the table and the shares change alone. -/
theorem withPeers_eq (l : List Peer) (s : State) : withPeers l s = s.setShare { s.share with
    peers := l, hotShare := (withPeers l s).share.hotShare, effShare := (withPeers l s).share.effShare
    hotReported := (withPeers l s).share.hotReported } := rfl

/-! ## The events of the peer table -/

theorem ifInService_eq (f : State → State) (mark : s.reader.mark = .inService) : ifInService f s = f s := if_pos mark

theorem exec_demand (f : Frame) (running : s.power = .running) : exec (.demand f) s
    = .next (conclude s (if taken 1 7 f s then ifInService (takeDemand (frameNode f) (readDemand f)) s else s)) := by
  unfold exec execDemand
  exact event_running _ s running

theorem exec_bayRestarted (f : Frame) (running : s.power = .running) : exec (.bayRestarted f) s
    = .next (conclude s (if taken 13 0 f s then ifInService (takeRestarted (frameNode f)) s else s)) := by
  unfold exec execBayRestarted
  exact event_running _ s running

theorem exec_bayStatus (f : Frame) (running : s.power = .running) : exec (.bayStatus f) s
    = .next (conclude s (if taken 12 0 f s then ifInService (takeStatus (frameNode f)) s else s)) := by
  unfold exec execBayStatus
  exact event_running _ s running

theorem exec_peerSilenceExpiry (n : Nat) (running : s.power = .running) : exec (.peerSilenceExpiry n) s
    = .next (conclude s (peerSilent n s)) := by
  unfold exec execPeerSilenceExpiry
  exact event_running _ s running

end Sys2Proof.Machine
end

section
open Sys2Proof Sys2Proof.Machine

/-- Settles O50: an entry put or dropped with the shares computed afresh, or nothing. -/
theorem peerTableFollowsTheNotices : Obligations.PeerTableFollowsTheNotices := by
  unfold Obligations.PeerTableFollowsTheNotices
  intro c n entry s running mark distinct hc
  have changed {l : List Peer} (taken : exec c s = .next (conclude s (withPeers l s)))
      (found : (l.find? (fun p => p.node == n)).map (·.demand) = entry)
      (others : ∀ m, m ≠ n → l.find? (fun p => p.node == m) = s.share.peers.find? (fun p => p.node == m))
      (silence : ∀ f, c = .demand f → (l.find? (fun p => p.node == n)).map (·.silence) = some 3000)
      (notStatus : ∀ f, c ≠ .bayStatus f) :
      ∃ t, exec c s = .next t
      ∧ (t.share.peers.find? (fun p => p.node == n)).map (·.demand) = entry
      ∧ (∀ m, m ≠ n → t.share.peers.find? (fun p => p.node == m) = s.share.peers.find? (fun p => p.node == m))
      ∧ (∀ f, c = .demand f → (t.share.peers.find? (fun p => p.node == n)).map (·.silence) = some 3000)
      ∧ ((∃ f, c = .bayStatus f) → SameShare s t)
      ∧ ((∀ f, c ≠ .bayStatus f) →
          t.share.hotShare = ownShare t t.share.hotCap Demand.hot
          ∧ t.share.effShare = ownShare t t.share.effCap Demand.eff)
      ∧ (t.share.hotCap, t.share.effCap, t.share.plant, t.share.stale, t.share.lockout, t.share.announced)
          = (s.share.hotCap, s.share.effCap, s.share.plant, s.share.stale, s.share.lockout, s.share.announced)
      ∧ (s.pass.phase ≠ .spray → s.pass.phase ≠ .starved →
          t.job = s.job ∧ t.pass = s.pass ∧ SameDiuFillFaults s t ∧ t.panel = s.panel ∧ SameModule s t
          ∧ Sending s.line.fifo s t) := by
    obtain ⟨hot, eff⟩ := (show Computed (withPeers l s) from recompute_computed _).concluded s
    have share := conclude_share s (withPeers l s)
    have peers : (conclude s (withPeers l s)).share.peers = l := by rw [share]; rfl
    refine ⟨_, taken, by rwa [peers], by rwa [peers], by rwa [peers], fun ⟨f, h⟩ => absurd h (notStatus f),
      fun _ => ⟨hot, eff⟩, by rw [share]; rfl, fun notSpray notStarved => ?_⟩
    have k := conclude_phase s (withPeers l s) notSpray notStarved
    exact ⟨k.job, k.pass, k.sameDiuFillFaults rfl rfl rfl, k.panel, k.sameModule (.refl s), k.sending rfl⟩
  obtain ⟨f, rfl, filtered, rfl, notZero, notOwn, rfl⟩ | ⟨f, rfl, filtered, rfl, notOwn, rfl⟩ | ⟨rfl, known, rfl⟩
    | ⟨f, rfl, filtered, rfl, notOwn, rfl⟩ := hc
  · refine changed ?_ (by rw [find?_putPeer_same]; rfl) (fun m other => find?_putPeer_other other (readDemand f) _)
      (fun f' h => by rw [find?_putPeer_same]; rfl) nofun
    rw [exec_demand f running, if_pos filtered, ifInService_eq _ mark, takeDemand, if_neg notOwn, if_neg notZero]
  · refine changed ?_ (by rw [find?_dropPeer_same]; rfl) (fun m other => find?_dropPeer_other other _) nofun nofun
    rw [exec_bayRestarted f running, if_pos filtered, ifInService_eq _ mark, takeRestarted, if_neg notOwn]
  · refine changed ?_ (by rw [find?_dropPeer_same]; rfl) (fun m other => find?_dropPeer_other other _) nofun nofun
    have effect : peerSilent n s = withPeers (dropPeer n s.share.peers) s := if_pos (by simpa using known)
    rw [exec_peerSilenceExpiry n running, effect]
  · have k := conclude_same s s rfl
    have share := k.sameShare (s := s) rfl
    have peers : (conclude s s).share.peers = s.share.peers := by rw [share]
    refine ⟨conclude s s, ?_, by rw [peers], fun m _ => by rw [peers], nofun, fun _ => share,
      fun h => absurd rfl (h f), by rw [share], fun _ _ => ⟨k.job, k.pass, k.sameDiuFillFaults rfl rfl rfl, k.panel,
      k.sameModule (.refl s), k.sending rfl⟩⟩
    rw [exec_bayStatus f running, if_pos filtered, ifInService_eq _ mark, takeStatus, if_neg notOwn]

end

section
/-! SUPPORT. What the end of an event sends where the own demand has not changed (R161, R174 to R176). -/

namespace Sys2Proof.Machine

variable {s t u : State} {s0 : State}

/-! ## The transmit buffer -/

/-- With the bus off or a frame in the buffer nothing is sent. -/
theorem sendNext_of_full (full : ¬ (u.line.bus = .active ∧ u.line.tx = none)) : sendNext u = u := by
  have unfilled : fillTx u = u := if_neg full
  unfold sendNext
  rw [unfilled]
  exact if_pos rfl

/-- A refresh of BAY_STATUS leaves the buffer, the notice in transmission, the DEMAND mailbox and the bus. -/
theorem refreshStatus_line (s0 u : State) : (refreshStatus s0 u).line.tx = u.line.tx
    ∧ (refreshStatus s0 u).line.inTx = u.line.inTx ∧ (refreshStatus s0 u).line.demandBox = u.line.demandBox
    ∧ (refreshStatus s0 u).line.bus = u.line.bus ∧ (refreshStatus s0 u).line.fifo = u.line.fifo
    ∧ (u.line.statusBox.isSome = true → (refreshStatus s0 u).line.statusBox.isSome = true) := by
  unfold refreshStatus
  split
  · exact ⟨rfl, rfl, rfl, rfl, rfl, fun _ => rfl⟩
  · exact ⟨rfl, rfl, rfl, rfl, rfl, id⟩

/-- A BAY_STATUS placed as the gap is cleared leaves the buffer and the notice in transmission. -/
theorem sendNext_tx (u : State) : (sendNext u).line.tx = (fillTx u).line.tx
    ∧ (sendNext u).line.inTx = (fillTx u).line.inTx ∧ (sendNext u).line.demandBox = (fillTx u).line.demandBox := by
  unfold sendNext
  dsimp only
  split <;> exact ⟨rfl, rfl, rfl⟩

/-- The next frame of the notice in transmission goes into an empty buffer, a DEMAND before it (R176). -/
theorem sendNext_inTx {x : InTx} (active : u.line.bus = .active) (empty : u.line.tx = none)
    (sending : u.line.inTx = some x) : (sendNext u).line.inTx = some x
      ∧ (sendNext u).line.tx.map (fun g => (g.content, g.number)) = some (match u.line.demandBox with
        | some d => (.demand d, 0)
        | none => (x.content, x.next)) := by
  obtain ⟨tx, inTx, -⟩ := sendNext_tx u
  rw [tx, inTx, fillTx, if_pos ⟨active, empty⟩]
  cases box : u.line.demandBox with
  | some d => simp [chooseFrame, box, sending, frameOf]
  | none => simp [chooseFrame, box, sending, frameOf]

/-- Something that waits goes into an empty buffer. -/
theorem sendNext_fills (active : u.line.bus = .active) (empty : u.line.tx = none)
    (waits : u.line.demandBox.isSome = true ∨ u.line.inTx.isSome = true ∨ u.line.fifo ≠ []
      ∨ u.line.statusBox.isSome = true) : (sendNext u).line.tx.isSome = true := by
  obtain ⟨tx, -⟩ := sendNext_tx u
  rw [tx, fillTx, if_pos ⟨active, empty⟩]
  unfold chooseFrame
  split
  · rfl
  · split
    · rfl
    · split
      · rfl
      · split
        · rfl
        · simp_all

/-- A fault raised leaves what waits and what is being sent. -/
theorem raiseFault_waiting (k : FaultKind) (comp stage : Option Nat) (s : State) :
    (raiseFault k comp stage s).line.tx = s.line.tx ∧ (raiseFault k comp stage s).line.inTx = s.line.inTx
    ∧ (raiseFault k comp stage s).line.demandBox = s.line.demandBox := by
  unfold raiseFault queueEvent
  repeat' split
  all_goals exact ⟨rfl, rfl, rfl⟩

/-! ## Send completion (R162, R176) -/

theorem sendComplete_none (none : s.line.tx = none) : sendComplete s = s := by simp only [sendComplete, none]

/-- A DEMAND sent is announced. -/
theorem sendComplete_demand {f : TxFrame} {d : Demand} (tx : s.line.tx = some f) (content : f.content = .demand d) :
    sendComplete s = announce d (s.setLine { s.line with tx := none }) := by simp only [sendComplete, tx, content]

/-- Another frame sent moves its notice on. -/
theorem sendComplete_notice {f : TxFrame} (tx : s.line.tx = some f) (notDemand : ∀ d, f.content ≠ .demand d) :
    sendComplete s = noteSent (s.setLine { s.line with tx := none }) := by
  cases content : f.content with
  | demand d => exact absurd content (notDemand d)
  | event | report | status => simp only [sendComplete, tx, content]

theorem noteSent_rest (s : State) : noteSent s = s.setLine (noteSent s).line
    ∧ (noteSent s).line.bus = s.line.bus := by
  unfold noteSent
  split
  · exact ⟨rfl, rfl⟩
  · split <;> exact ⟨rfl, rfl⟩

theorem noteSent_more {x : InTx} (sending : s.line.inTx = some x) (more : x.next + 1 < x.total) :
    noteSent s = s.setLine { s.line with inTx := some { x with next := x.next + 1 } } := by
  simp only [noteSent, sending, more, if_true]

theorem noteSent_last {x : InTx} (sending : s.line.inTx = some x) (last : x.total ≤ x.next + 1) :
    noteSent s = s.setLine { s.line with inTx := none, fifo := fifoAfter x.content s.line.fifo } := by
  simp only [noteSent, sending, not_lt.mpr last, if_false]

/-! ## The end of an event that leaves the own demand -/

/-- With the conditions' inputs and the own demand as they were, an event ends in sending alone. -/
theorem conclude_of_sameDemand (same : starveInputs u = starveInputs s0) (demand : ownDemand u = ownDemand s0) :
    (conclude s0 u).line = (sendNext (refreshStatus s0 u)).line ∧ (conclude s0 u).share = u.share := by
  unfold conclude
  rw [lookConditions_same s0 u same, formDemand_same s0 demand]
  have sends := (refreshStatus_sends s0 u).trans (sendNext_sends _)
  refine ⟨rfl, ?_⟩
  show (sendNext (refreshStatus s0 u)).share = u.share
  rw [sends.rest]

/-- A demand that has changed is the own demand (R159). -/
theorem conclude_own (same : starveInputs u = starveInputs s0) (served : inService u)
    (changed : ownDemand u ≠ ownDemand s0) : (conclude s0 u).share.own = ownDemand u := by
  have placed (v : State) : (placeDemand v).share.own = v.share.own := by
    unfold placeDemand
    split <;> rfl
  have own : (formDemand s0 u).share.own = ownDemand u := by
    unfold formDemand
    dsimp only
    rw [if_pos ⟨served, changed⟩]
    split
    · exact placed _
    · rfl
  have sends := (refreshStatus_sends s0 (formDemand s0 u)).trans (sendNext_sends _)
  unfold conclude
  rw [lookConditions_same s0 u same]
  show (sendNext (refreshStatus s0 (formDemand s0 u))).share.own = ownDemand u
  rw [sends.rest]
  exact own

/-- Nothing leaves a buffer that is full or a bus that is off. -/
theorem conclude_line_of_full (same : starveInputs u = starveInputs s0) (demand : ownDemand u = ownDemand s0)
    (full : ¬ (u.line.bus = .active ∧ u.line.tx = none)) : (conclude s0 u).line = (refreshStatus s0 u).line := by
  obtain ⟨tx, -, -, bus, -⟩ := refreshStatus_line s0 u
  rw [(conclude_of_sameDemand same demand).1, sendNext_of_full (by rwa [tx, bus])]

end Sys2Proof.Machine
end

section
open Sys2Proof Sys2Proof.Machine

/-- Settles O53: a DEMAND placed, the steady flag cleared with the own demand formed afresh, a refresh asked for. -/
theorem noticeTimersPlaceTheirNotices : Obligations.NoticeTimersPlaceTheirNotices := by
  unfold Obligations.NoticeTimersPlaceTheirNotices
  intro s running
  refine ⟨?_, ?_, ?_⟩
  · have taken : exec .demandRefreshExpiry s = .next (conclude s (refreshDemand s)) := by
      unfold exec execDemandRefreshExpiry
      exact event_running _ s running
    by_cases places : s.share.refresh.isSome = true ∧ s.share.lockout = false
    case neg =>
      have effect : refreshDemand s = s := by
        unfold refreshDemand placeDemand
        split_ifs <;> simp_all
      rw [effect] at taken
      have k := conclude_same s s rfl
      exact ⟨_, taken, fun _ => (conclude_of_sameDemand rfl rfl).2, fun h1 h2 => absurd ⟨h1, h2⟩ places, k.job, k.pass,
        k.sameDiuFillFaults rfl rfl rfl, k.panel, k.sameModule (.refl s), k.sending rfl⟩
    case pos =>
    obtain ⟨runs, unlocked⟩ := places
    let u := (s.setLine { s.line with demandBox := some s.share.own }).setShare { s.share with refresh := some 1000 }
    have effect : refreshDemand s = u := (if_pos runs).trans (if_neg (by simp [unlocked]))
    rw [effect] at taken
    have k := conclude_same s u rfl
    obtain ⟨line, share⟩ := conclude_of_sameDemand (s0 := s) (u := u) rfl rfl
    obtain ⟨tx, inTx, box, bus, -⟩ := refreshStatus_line s u
    refine ⟨_, taken, fun h => by simp_all, fun _ _ => ⟨share, fun ⟨active, empty⟩ => ?_, fun full => ?_⟩, k.job, k.pass,
      k.sameDiuFillFaults rfl rfl rfl, k.panel, k.sameModule (.refl s), k.sending rfl⟩
    · rw [line, sendNext_demand (bus.trans active) (tx.trans empty) box]
      exact ⟨rfl, rfl⟩
    · rw [conclude_line_of_full (s0 := s) (u := u) rfl rfl full, tx, box]
      exact ⟨rfl, rfl⟩
  · have taken : exec .steadyTimerExpiry s = .next (conclude s (steadyExpires s)) := by
      unfold exec execSteadyTimerExpiry
      exact event_running _ s running
    cases steady : s.share.steady with
    | none =>
      have effect : steadyExpires s = s := by simp [steadyExpires, steady]
      rw [effect] at taken
      have k := conclude_same s s rfl
      have share := (conclude_of_sameDemand (s0 := s) (u := s) rfl rfl).2
      refine ⟨_, taken, fun _ => by rw [share], nofun, ?_, k.job, k.pass,
        k.sameDiuFillFaults rfl rfl rfl, k.panel, k.sameModule (.refl s), k.sending rfl⟩
      rw [share, ← steady]
    | some n =>
      have effect : steadyExpires s = clearSteady s := by simp [steadyExpires, steady]
      rw [effect] at taken
      have k := conclude_same s (clearSteady s) rfl
      have share : SameShare (clearSteady s) (conclude s (clearSteady s)) := k.share
      refine ⟨_, taken, nofun, fun _ => ⟨by rw [share]; rfl, fun served flag => ?_⟩, by rw [share]; rfl, k.job, k.pass,
        k.sameDiuFillFaults rfl rfl rfl, k.panel, k.sameModule (.refl s), k.sending rfl⟩
      have changed : ownDemand (clearSteady s) ≠ ownDemand s := by
        intro h
        have : (ownDemand (clearSteady s)).steady = (ownDemand s).steady := by rw [h]
        simp [ownDemand, clearSteady, flag] at this
      rw [conclude_own (s0 := s) (u := clearSteady s) rfl served changed]
      rfl
  · have taken : exec .bayStatusRefreshExpiry s = .next (conclude s (statusExpires s)) := by
      unfold exec execBayStatusRefreshExpiry
      exact event_running _ s running
    by_cases runs : s.line.statusTimer.isSome = true
    case neg =>
      have effect : statusExpires s = s := if_neg runs
      rw [effect] at taken
      have k := conclude_same s s rfl
      exact ⟨_, taken, fun h => absurd h runs, (conclude_of_sameDemand rfl rfl).2, k.job, k.pass,
        k.sameDiuFillFaults rfl rfl rfl, k.panel, k.sameModule (.refl s), k.sending rfl⟩
    case pos =>
    have effect : statusExpires s = askStatus s := if_pos runs
    rw [effect] at taken
    have k := conclude_same s (askStatus s) rfl
    refine ⟨_, taken, fun _ => ⟨conclude_statusTimer_of_due s _ rfl rfl, fun full => ?_⟩,
      (conclude_of_sameDemand (s0 := s) (u := askStatus s) rfl rfl).2, k.job, k.pass,
      k.sameDiuFillFaults rfl rfl rfl, k.panel, k.sameModule (.refl s), k.sending rfl⟩
    have full' : ¬ ((askStatus s).line.bus = .active ∧ (askStatus s).line.tx = none) := by
      rintro ⟨-, empty⟩
      have : s.line.tx = none := empty
      simp [this] at full
    rw [conclude_line_of_full (s0 := s) (u := askStatus s) rfl rfl full', refreshStatus_of_due s _ rfl]
    rfl

/-- Settles O56: the send completion by what was sent, bus-off with its fault, and the buffer filled at recovery. -/
theorem framesGoOutAndTheBusRecovers : Obligations.FramesGoOutAndTheBusRecovers := by
  unfold Obligations.FramesGoOutAndTheBusRecovers
  intro s running
  refine ⟨?_, fun room => ?_, ?_⟩
  · have taken : exec .transmitComplete s
        = .next (conclude s (if s.line.bus = .active then sendComplete s else s)) := by
      unfold exec execTransmitComplete
      exact event_running _ s running
    refine ⟨_, taken, ?_⟩
    by_cases active : s.line.bus = .active
    case neg =>
      have k := conclude_same s s rfl
      have off : ¬ (s.line.bus = .active ∧ s.line.tx = none) := fun h => active h.1
      have tx : (conclude s s).line.tx = s.line.tx := by
        rw [conclude_line_of_full (s0 := s) (u := s) rfl rfl off]
        exact (refreshStatus_line s s).1
      rw [if_neg active]
      exact ⟨fun _ => ⟨k.job, k.pass, k.sameDiuFillFaults rfl rfl rfl, k.panel, k.sameModule (.refl s), k.line.2⟩,
        fun _ => ⟨(conclude_of_sameDemand rfl rfl).2, k.line.1, tx⟩, fun _ _ h => absurd h active,
        fun _ _ h => absurd h active, fun _ _ h => absurd h active⟩
    case pos =>
    rw [if_pos active]
    have notOff {P : Prop} (h : s.line.bus = .busOff) : P := by simp [active] at h
    obtain empty | ⟨f, tx⟩ := Option.eq_none_or_eq_some s.line.tx
    · have k := conclude_same s s rfl
      rw [sendComplete_none empty]
      exact ⟨fun _ => ⟨k.job, k.pass, k.sameDiuFillFaults rfl rfl rfl, k.panel, k.sameModule (.refl s), k.line.2⟩, notOff,
        fun f d _ h => by simp [empty] at h, fun f d _ h => by simp [empty] at h, fun f x _ h => by simp [empty] at h⟩
    have only {g : TxFrame} (h : s.line.tx = some g) : g = f := by
      rw [tx, Option.some.injEq] at h
      exact h.symm
    let v := s.setLine { s.line with tx := none }
    by_cases demand : ∃ d, f.content = .demand d
    case neg =>
      have notDemand : ∀ d, f.content ≠ .demand d := fun d h => demand ⟨d, h⟩
      have effect : sendComplete s = v.setLine (noteSent v).line :=
        (sendComplete_notice tx notDemand).trans (noteSent_rest v).1
      rw [effect]
      have k := conclude_same s (v.setLine (noteSent v).line) rfl
      obtain ⟨line, share⟩ := conclude_of_sameDemand (s0 := s) (u := v.setLine (noteSent v).line) rfl rfl
      refine ⟨fun _ => ⟨k.job, k.pass, k.sameDiuFillFaults rfl rfl rfl, k.panel, k.sameModule (.refl s),
        k.line.2.trans (noteSent_rest v).2⟩, notOff, fun g d _ hg h => ?_, fun g d _ hg h => ?_,
        fun g x _ hg notDemand' sending => ⟨share, fun more => ?_, fun last => ?_⟩⟩
      · exact absurd (only hg ▸ h) (notDemand d)
      · exact absurd (only hg ▸ h) (notDemand d)
      · have moved : (noteSent v).line = { v.line with inTx := some { x with next := x.next + 1 } } := by
          rw [noteSent_more (s := v) sending more]
          rfl
        obtain ⟨tx', inTx, box, bus, -⟩ := refreshStatus_line s (v.setLine (noteSent v).line)
        have goes := sendNext_inTx (u := refreshStatus s (v.setLine (noteSent v).line))
          (x := { x with next := x.next + 1 }) (by rw [bus]; exact (noteSent_rest v).2.trans active)
          (by rw [tx', setLine_line, moved]; rfl) (by rw [inTx, setLine_line, moved])
        refine ⟨by rw [line]; exact goes.1, k.line.1.trans (by rw [setLine_line, moved]; rfl), ?_⟩
        rw [line, goes.2, box, setLine_line, moved]
        rfl
      · have moved : (noteSent v).line = { v.line with inTx := none, fifo := fifoAfter x.content v.line.fifo } := by
          rw [noteSent_last (s := v) sending last]
          rfl
        exact k.line.1.trans (by rw [setLine_line, moved]; rfl)
    case pos =>
    obtain ⟨d, content⟩ := demand
    rw [sendComplete_demand tx content]
    have only' {g : TxFrame} {e : Demand} (hg : s.line.tx = some g) (h : g.content = .demand e) : e = d := by
      rw [only hg, content, Sent.demand.injEq] at h
      exact h.symm
    by_cases locked : s.share.lockout = true
    · have effect : announce d v = v := if_pos locked
      rw [effect]
      have k := conclude_same s v rfl
      have share := (conclude_of_sameDemand (s0 := s) (u := v) rfl rfl).2
      exact ⟨fun _ => ⟨k.job, k.pass, k.sameDiuFillFaults rfl rfl rfl, k.panel, k.sameModule (.refl s), k.line.2⟩, notOff,
        fun _ _ _ _ _ unlocked => by simp [locked] at unlocked, fun _ _ _ _ _ _ => ⟨share, k.pass, k.line.1⟩,
        fun g x _ hg notDemand => absurd content (only hg ▸ notDemand d)⟩
    · let u := withPeers (putPeer (nodeOf s) d s.share.peers) (v.setShare { s.share with announced := d })
      have effect : announce d v = u := if_neg locked
      rw [effect]
      have share := conclude_share s u
      obtain ⟨hot, eff⟩ := (show Computed u from recompute_computed _).concluded s
      refine ⟨fun h => ?_, notOff, fun g e _ hg he _ => ?_, fun _ _ _ _ _ h => absurd h locked,
        fun g x _ hg notDemand => absurd content (only hg ▸ notDemand d)⟩
      · obtain off | notDemand | ⟨notSpray, notStarved⟩ := h
        · exact notOff off
        · exact absurd content (notDemand f d tx)
        · have k := conclude_phase s u notSpray notStarved
          exact ⟨k.job, k.pass, k.sameDiuFillFaults rfl rfl rfl, k.panel, k.sameModule (.refl s), k.line.2⟩
      · obtain rfl := only' hg he
        refine ⟨by rw [share]; rfl, fun notSpray notStarved => (conclude_phase s u notSpray notStarved).line.1, ?_, hot, eff⟩
        rw [share]
        exact find?_putPeer_same _ _ _
  · let w := s.setLine { s.line with bus := .busOff }
    have taken : exec .busOff s = .next (conclude s (raiseFault .busOff none none w)) := by
      unfold exec execBusOff
      exact event_running _ s running
    obtain ⟨rest, bus⟩ := raiseFault_rest .busOff none none w
    have k := conclude_same s (raiseFault .busOff none none w) (by rw [rest]; rfl)
    have demand : ownDemand (raiseFault .busOff none none w) = ownDemand s := by rw [rest]; rfl
    have off : ¬ ((raiseFault .busOff none none w).line.bus = .active ∧ (raiseFault .busOff none none w).line.tx = none) := by
      rw [bus]
      rintro ⟨h, -⟩
      cases h
    have share := (conclude_of_sameDemand (by rw [rest]; rfl) demand).2
    have line := conclude_line_of_full (by rw [rest]; rfl) demand off
    obtain ⟨tx, inTx, box, -⟩ := refreshStatus_line s (raiseFault .busOff none none w)
    obtain ⟨tx', inTx', box'⟩ := raiseFault_waiting .busOff none none w
    refine ⟨_, taken, k.line.2.trans bus, by rw [line, tx, tx']; rfl, by rw [line, inTx, inTx']; rfl,
      by rw [line, box, box']; rfl, ⟨fun empty => ⟨?_, ?_⟩, fun held => ⟨?_, ?_⟩⟩, by rw [share, rest]; rfl,
      by rw [k.job, rest]; rfl, by rw [k.pass, rest]; rfl, by rw [k.diu, rest]; rfl, by rw [k.fill, rest]; rfl,
      by rw [k.panel, rest]; rfl, k.sameModule (by rw [rest]; exact .refl s)⟩
    · rw [k.faults, raiseFault_empty .busOff none none (s := w) empty]
      rfl
    · exact k.line.1.trans (raiseFault_empty_fifo .busOff none none (s := w) empty room)
    · rw [k.faults, raiseFault_held_eq .busOff none none (s := w) held]
      rfl
    · exact k.line.1.trans (by rw [raiseFault_held_eq .busOff none none (s := w) held]; rfl)
  · let u := s.setLine { s.line with bus := .active }
    have taken : exec .busRecovery s = .next (conclude s u) := by
      unfold exec execBusRecovery
      exact event_running _ s running
    have k := conclude_same s u rfl
    obtain ⟨line, share⟩ := conclude_of_sameDemand (s0 := s) (u := u) rfl rfl
    obtain ⟨tx, inTx, box, bus, fifo, status⟩ := refreshStatus_line s u
    refine ⟨_, taken, (k.line.2), k.line.1, fun full => ?_, fun empty waits => ?_, share, k.job, k.pass,
      k.sameDiuFillFaults rfl rfl rfl, k.panel, k.sameModule (.refl s)⟩
    · have full' : ¬ (u.line.bus = .active ∧ u.line.tx = none) := by
        rintro ⟨-, empty⟩
        have : s.line.tx = none := empty
        simp [this] at full
      rw [conclude_line_of_full (s0 := s) (u := u) rfl rfl full', tx]
      rfl
    · rw [line]
      refine sendNext_fills bus (tx.trans empty) ?_
      rw [box, inTx, fifo]
      exact waits.imp_right (Or.imp_right (Or.imp_right status))

end

section
/-! SUPPORT. The sump sample (R15, R167, R168) and the end of an event in an out-of-service bay. -/

namespace Sys2Proof.Machine

variable {s t u : State} {s0 : State}

/-- In an out-of-service bay no condition is looked at and no demand formed (R15). -/
theorem conclude_outOfService (s0 : State) (out : ¬ inService u) :
    Concluded u (conclude s0 u) ∧ (conclude s0 u).share = u.share := by
  have looked : lookConditions s0 u = u := if_neg (fun h => out h.1)
  have formed : formDemand s0 u = u := if_neg (fun h => out h.1)
  have sends := (refreshStatus_sends s0 u).trans (sendNext_sends _)
  unfold conclude
  rw [looked, formed]
  refine ⟨driveOutputs_concluded sends.ends, ?_⟩
  show (sendNext (refreshStatus s0 u)).share = u.share
  rw [sends.rest]

theorem levelOf_eq (capacity current : Nat) : levelOf capacity current =
    if current ≤ 4000000 then 0 else if 20000000 ≤ current then capacity
    else (current - 4000000) * capacity / 16000000 := rfl

theorem levelOf_le (capacity current : Nat) : levelOf capacity current ≤ capacity := by
  rw [levelOf_eq]
  split
  · exact Nat.zero_le _
  · split
    · exact le_rfl
    · exact Nat.div_le_of_le_mul (Nat.mul_le_mul_right capacity (by omega))

/-- The sump sampled, the level over `capacity`, the pump-out state at `running`. -/
def sumpSampled (current level : Nat) (pumping : Bool) (s : State) : State :=
  (s.setPanel { s.panel with loopSump := current }).setShare
    { s.share with level := level, sumpClock := 250, pumpOut := pumping }

theorem exec_sumpSample (current : Nat) (running : s.power = .running) : exec (.sumpSample current) s
    = .next (conclude s (stepPumpOut (sampleSump (takeSumpLoop current s)))) := by
  unfold exec execSumpSample
  exact event_running _ s running

theorem sumpSample_inService {tb : Tables} (current : Nat) (served : inService s) (tables : s.reader.tables = some tb) :
    stepPumpOut (sampleSump (takeSumpLoop current s)) = sumpSampled current (levelOf tb.yard.capacity current)
      (pumpOutAfter tb.yard (levelOf tb.yard.capacity current) s.share.pumpOut) s := by
  have sampled : sampleSump (takeSumpLoop current s)
      = sumpSampled current (levelOf tb.yard.capacity current) s.share.pumpOut s := by
    have capacity : sumpCapacity (takeSumpLoop current s) = tb.yard.capacity := by
      simp [sumpCapacity, takeSumpLoop, tables]
    rw [sampleSump, capacity]
    rfl
  rw [sampled]
  generalize levelOf tb.yard.capacity current = level
  have tables' : (sumpSampled current level s.share.pumpOut s).reader.tables = some tb := tables
  unfold stepPumpOut
  rw [tables']
  exact if_pos served

/-- An out-of-service bay's pump-out state stays as it is. -/
theorem sumpSample_outOfService (current : Nat) (out : ¬ inService s) :
    stepPumpOut (sampleSump (takeSumpLoop current s))
      = sumpSampled current (levelOf (sumpCapacity s) current) s.share.pumpOut s := by
  let v := sampleSump (takeSumpLoop current s)
  have out' : ¬ inService v := out
  have same : stepPumpOut v = v := by
    unfold stepPumpOut
    split
    · rfl
    · exact if_neg out'
  exact same

end Sys2Proof.Machine
end

section
open Sys2Proof Sys2Proof.Machine

/-- Settles O54: the level sampled, the pump-out state after it, and the outputs as the state at the end drives them. -/
theorem sumpSampleDrivesThePumpOut : Obligations.SumpSampleDrivesThePumpOut := by
  unfold Obligations.SumpSampleDrivesThePumpOut
  refine ⟨fun current tb s served tables => ?_, fun current s running out => ?_⟩
  · have taken := exec_sumpSample current served.1
    rw [sumpSample_inService current served tables] at taken
    let level := levelOf tb.yard.capacity current
    let u := sumpSampled current level (pumpOutAfter tb.yard level s.share.pumpOut) s
    have share := conclude_share s u
    obtain ⟨power, reader, -⟩ := conclude_reader s u
    have servedAfter : inService (conclude s u) := ⟨power.trans served.1, by rw [reader]; exact served.2⟩
    have outs : (conclude s u).outs = driveInService (conclude s u) := by
      rw [conclude_outs, drive, if_pos servedAfter.1, if_pos servedAfter.2]
    have rate : pumpRateOf (conclude s u)
        = if (conclude s u).share.pumpOut then min tb.yard.maxRate s.share.effShare else 0 := by
      have tables' : (conclude s u).reader.tables = some tb := by rw [reader]; exact tables
      have eff : (conclude s u).share.effShare = s.share.effShare := by rw [share]; rfl
      simp only [pumpRateOf, tables', eff]
    have atLevel : (conclude s u).share.level = level := by rw [share]; rfl
    have pumping : (conclude s u).share.pumpOut = pumpOutAfter tb.yard level s.share.pumpOut := by rw [share]; rfl
    refine ⟨_, taken, atLevel, atLevel.trans_le (levelOf_le _ _), fun stopped => ?_, fun started => ?_, ?_, ?_,
      by rw [share]; rfl, fun notSpray notStarved => ?_⟩
    · rw [atLevel, pumping, stopped]
      simp [pumpOutAfter]
    · rw [atLevel, pumping, started]
      simp [pumpOutAfter]
    · rw [outs]
      exact rate
    · rw [outs]
      exact decide_eq_true_iff
    · have k := conclude_phase s u notSpray notStarved
      have same := k.share
      exact ⟨k.panel, by rw [same]; rfl, by rw [same]; rfl, k.job, k.pass, k.sameDiuFillFaults rfl rfl rfl,
        k.sameModule (.refl s), k.sending rfl⟩
  · have outOfService : ¬ inService s := fun h => out h.2
    have taken := exec_sumpSample current running
    rw [sumpSample_outOfService current outOfService] at taken
    let u := sumpSampled current (levelOf (sumpCapacity s) current) s.share.pumpOut s
    obtain ⟨k, share⟩ := conclude_outOfService (u := u) s outOfService
    obtain ⟨power, reader, -⟩ := conclude_reader s u
    have outs : (conclude s u).outs = lampsOnly (conclude s u) := by
      rw [conclude_outs, drive, if_pos (power.trans running), if_neg (by rw [reader]; exact out)]
    refine ⟨_, taken, ?_, by rw [outs]; rfl, by rw [outs]; rfl, k.panel, k.job, k.pass, k.sameDiuFillFaults rfl rfl rfl,
      k.sameModule (.refl s), k.sending rfl⟩
    rw [share]
    rfl

end

section
/-! SUPPORT. A FLUSH entered or taken up again without a finding (R64, R85, R90, R91, R113). -/

namespace Sys2Proof.Machine

variable {s t u : State}

/-! ## No finding -/

/-- A list of no member faults nobody. -/
theorem headCheck_of_seated (seated : unseated s = []) : headCheck s = s := by
  rw [headCheck, seated]
  rfl

theorem sensorEntry_of_quiet (quiet : sensorFault s = false) : sensorEntry s = s := if_neg (ne_true_of_eq_false quiet)

/-- With a member that goes on nothing is settled. -/
theorem settleRetired_of_goesOn (some : s.pass.members ≠ []) (goesOn : allRetiring s.pass = false) :
    settleRetired s = s := by
  unfold settleRetired
  by_cases takes : formed s.pass ∧ aborting s.pass = false
  · rw [if_pos takes, if_neg some, if_neg (ne_true_of_eq_false goesOn)]
  · rw [if_neg takes]

theorem flushFindings_of_quiet (quiet : sensorFault s = false) (seated : unseated s = []) (some : s.pass.members ≠ [])
    (goesOn : allRetiring s.pass = false) : flushFindings s = s := by
  unfold flushFindings
  rw [quiet]
  show settleRetired (headCheck (sensorEntry s)) = s
  rw [sensorEntry_of_quiet quiet, headCheck_of_seated seated, settleRetired_of_goesOn some goesOn]

/-- A channel that is present stays so at a sample that is not below 3.6 mA. -/
theorem conditionLoop_present {ch : Channel} {current : Nat} {x : Loop} (present : x.present = true)
    (level : 3600000 ≤ current) : (conditionLoop ch current x).present = true := by
  have notLow : decide (current < Config.presenceCurrent) = false := decide_eq_false (not_lt.mpr level)
  simp [conditionLoop, stepPresence, notLow, present]

/-- With both channels present none that the stage names is absent. -/
theorem namedAbsent_of_present (c : s.diu.c.present = true) (t : s.diu.t.present = true) : namedAbsent s = false := by
  simp [namedAbsent, c, t]

theorem sensorFault_of_present (present : namedAbsent s = false) : sensorFault s = false := by simp [sensorFault, present]

/-! ## The flush record at the entry (R113) -/

/-- A sample of the loops and of the flush record changes the DIU alone. -/
theorem recordFlush_frame (s : State) : ∃ d, recordFlush s = s.setDiu d ∧ d.clock = s.diu.clock
    ∧ d.histories = s.diu.histories ∧ d.window = s.diu.window ∧ d.c = s.diu.c ∧ d.t = s.diu.t ∧ d.temp = s.diu.temp := by
  unfold recordFlush
  dsimp only
  split
  · exact ⟨_, rfl, rfl, rfl, rfl, rfl, rfl, rfl⟩
  · exact ⟨s.diu, rfl, rfl, rfl, rfl, rfl, rfl, rfl⟩

/-- A record of fewer than 8 samples forms no baseline at its next sample. -/
theorem baselineOf_addFlush {f : FlushRec} (reading : Nat) (old : Option Nat) (few : f.count < 7) :
    baselineOf (addFlush f reading) old = old := by
  unfold addFlush
  rw [if_pos (by omega)]
  exact if_neg (by simp only; omega)

theorem recordFlush_bases (s : State) (few : s.diu.flushC.count < 7) (few' : s.diu.flushT.count < 7) :
    (recordFlush s).diu.baseC = s.diu.baseC ∧ (recordFlush s).diu.baseT = s.diu.baseT := by
  unfold recordFlush
  dsimp only
  split
  · constructor
    · simp only [setDiu_diu]
      split
      next named => rw [baselineOf_addFlush _ _ few]
      · rfl
    · simp only [setDiu_diu]
      split
      next named => rw [baselineOf_addFlush _ _ few']
      · rfl
  · exact ⟨rfl, rfl⟩

/-! ## The entry of FLUSH (R64, R113) -/

/-- The panel with the raw pump-stopped line on. -/
def pumpedPanel (p : Panel) : Panel := { p with raw := { p.raw with pumpStopped := true } }

/-- The pass at the entry of FLUSH. -/
def flushPass (p : Pass) : Pass :=
  { p with
    phase := .flush, flushLeft := 2000, skipped := false, spray := none, resumeAt := none,
    nextStep := none, holdTimer := none, draining := none, drainList := [],
    repeats := if (stageOf p).kind = .finalRinse then p.repeats + 1 else p.repeats }

/-- A FLUSH entered with every head seated and both channels present: the pass, the panel and the DIU change alone. -/
theorem enterFlush_eq (seated : unseated s = []) (some : s.pass.members ≠ []) (goesOn : allRetiring s.pass = false)
    (c : s.diu.c.present = true) (t : s.diu.t.present = true) (loopC : 3600000 ≤ s.panel.loopC)
    (loopT : 3600000 ≤ s.panel.loopT) : ∃ d, enterFlush s
      = ((s.setPanel (pumpedPanel s.panel)).setPass (flushPass s.pass)).setDiu d
      ∧ d.baseC = none ∧ d.baseT = none ∧ d.clock = 250 ∧ d.histories = s.diu.histories := by
  let v := sampleLoops (startFlush (stageOf s.pass).inspection (pumpAtRest (s.setPass (flushPass s.pass))))
  have present : namedAbsent v = false := by
    refine namedAbsent_of_present (conditionLoop_present ?_ loopC) (conditionLoop_present ?_ loopT)
    · show (if names (stageOf s.pass).inspection .conductivity = true then { s.diu.c with gain := 1 } else s.diu.c).present
        = true
      split <;> exact c
    · show (if names (stageOf s.pass).inspection .turbidity = true then { s.diu.t with gain := 1 } else s.diu.t).present
        = true
      split <;> exact t
  have entered : enterFlush s = recordFlush v := by
    show recordFlush (flushFindings v) = recordFlush v
    rw [flushFindings_of_quiet (s := v) (sensorFault_of_present present) seated some goesOn]
  obtain ⟨d, recorded, clock, histories, -⟩ := recordFlush_frame v
  obtain ⟨baseC, baseT⟩ := recordFlush_bases v (show 0 < 7 by decide) (show 0 < 7 by decide)
  rw [recorded] at baseC baseT
  exact ⟨d, by rw [entered, recorded]; rfl, baseC, baseT, clock, histories⟩

/-- A FLUSH taken up again with every head seated and both channels present. -/
theorem resumeFlush_eq (seated : unseated s = []) (some : s.pass.members ≠ []) (goesOn : allRetiring s.pass = false)
    (c : s.diu.c.present = true) (t : s.diu.t.present = true) (loopC : 3600000 ≤ s.panel.loopC)
    (loopT : 3600000 ≤ s.panel.loopT) : ∃ d, resumeFlush s
      = ((s.setPanel (pumpedPanel s.panel)).setPass
          { s.pass with phase := .flush, resumeAt := none, holdTimer := none }).setDiu d ∧ d.clock = 250 := by
  let v := sampleLoops (pumpAtRest (s.setPass { s.pass with phase := .flush, resumeAt := none, holdTimer := none }))
  have present : namedAbsent v = false :=
    namedAbsent_of_present (conditionLoop_present c loopC) (conditionLoop_present t loopT)
  have entered : resumeFlush s = recordFlush v := by
    show recordFlush (flushFindings v) = recordFlush v
    rw [flushFindings_of_quiet (s := v) (sensorFault_of_present present) seated some goesOn]
  obtain ⟨d, recorded, clock, -⟩ := recordFlush_frame v
  exact ⟨d, by rw [entered, recorded]; rfl, clock⟩

end Sys2Proof.Machine
end

section
/-! SUPPORT. The append window's expiry (R52, R59). -/

namespace Sys2Proof.Machine

variable {s : State}

/-- With one entry a compartment, entering WASHING is one change of each member's record. -/
theorem washingTable_of_nodup {l : List BatchMember} (distinct : (l.map (·.index)).Nodup) (table : List Compartment) :
    washingTable l table = table.map (fun x => if l.any (fun b => b.index == x.index) then
      { x with state := .washing, attempts := min 255 (x.attempts + 1) } else x) := by
  induction l generalizing table with
  | nil => simp [washingTable]
  | cons b l ih =>
    obtain ⟨notAgain, rest⟩ := List.nodup_cons.mp distinct
    have first : washingTable (b :: l) table = washingTable l (table.map (fun c => if c.index = b.index then
      { c with state := .washing, attempts := satAdd 255 c.attempts 1 } else c)) := rfl
    rw [first, ih rest, List.map_map]
    refine List.map_congr_left (fun x _ => ?_)
    by_cases own : x.index = b.index
    · have other : l.any (fun y => y.index == x.index) = false := by
        rw [List.any_eq_false]
        intro y hy h
        exact notAgain (List.mem_map.mpr ⟨y, hy, (beq_iff_eq.mp h).trans own⟩)
      rw [Function.comp_apply, if_pos own, if_neg (ne_true_of_eq_false other), if_pos (by simp [own])]
      rfl
    · simp [own, Ne.symm own]

theorem exec_appendWindowExpiry (running : s.power = .running) : exec .appendWindowExpiry s
    = .next (conclude s (windowExpires s)) := by
  unfold exec execAppendWindowExpiry
  exact event_running _ s running

end Sys2Proof.Machine
end

section
open Sys2Proof Sys2Proof.Machine

/-- Settles O45: nothing, the refusal, or the formation followed by a FLUSH entered without a finding. -/
theorem appendWindowExpires : Obligations.AppendWindowExpires := by
  unfold Obligations.AppendWindowExpires
  intro s running
  have taken := exec_appendWindowExpiry running
  refine ⟨fun notGathering => ?_, fun gathering empty => ?_,
    fun gathering nonempty notDry heads c t loopC loopT distinct => ?_⟩
  · rw [show windowExpires s = s from if_neg notGathering] at taken
    have k := conclude_same s s rfl
    exact ⟨_, taken, k.pass, k.job, k.sameDiuFillFaults rfl rfl rfl, k.panel, k.sameShare rfl, k.sameModule (.refl s),
      k.sending rfl⟩
  · have effect : windowExpires s = (refuse .emptyBatch s).setPass Pass.idle :=
      (if_pos gathering).trans (if_pos empty)
    rw [effect] at taken
    have k := conclude_phase s ((refuse .emptyBatch s).setPass Pass.idle) nofun nofun
    exact ⟨_, taken, k.pass, k.panel, k.job, k.sameDiuFillFaults rfl rfl rfl, k.sameShare rfl, k.sameModule (.refl s),
      k.sending rfl⟩
  · let v := ((s.setJob { s.job with
        passCounter := s.job.passCounter + 1, table := washingTable s.pass.batch s.job.table }).setDiu
      { s.diu with
        histories := (formedPass s).members.map (fun m => { index := m.index, c := [], t := [] }) }).setPass
      (formedPass s)
    have isForm : formPass s = v := formPass_eq s
    have seated : unseated v = [] := by
      have on (b : BatchMember) (hb : b ∈ s.pass.batch) : headOn v b.index = true := heads b hb
      have none : (formedPass s).members.filter (fun m => m.retiring.isNone && !headOn v m.index) = [] := by
        rw [List.filter_eq_nil_iff]
        intro m hm
        obtain ⟨b, hb, rfl⟩ := List.mem_map.mp hm
        simp [formMember, on b hb]
      exact congrArg (List.map (·.index)) none
    obtain ⟨b, l, batch⟩ := List.exists_cons_of_ne_nil nonempty
    have someMember : v.pass.members ≠ [] := by simp [v, formedPass, nonempty]
    have goesOn : allRetiring v.pass = false := by simp [v, formedPass, allRetiring, batch, formMember]
    obtain ⟨d, entered, baseC, baseT, clock, histories⟩ :=
      enterFlush_eq (s := v) seated someMember goesOn c t loopC loopT
    have effect : windowExpires s = enterFlush v := by
      rw [← isForm]
      exact (if_pos gathering).trans ((if_neg nonempty).trans (if_neg (by rw [isForm]; exact notDry)))
    rw [effect, entered] at taken
    have k := conclude_phase s (((v.setPanel (pumpedPanel v.panel)).setPass (flushPass v.pass)).setDiu d) nofun nofun
    refine ⟨_, taken, ?_⟩
    rw [k.pass, k.job, k.diu, k.panel]
    refine ⟨rfl, rfl, rfl, rfl, rfl, rfl, rfl, rfl, rfl, ?_, washingTable_of_nodup distinct _, ?_, baseC, baseT, clock, rfl,
      k.fill, k.faults, k.sameShare rfl, k.sameModule (.refl s), k.sending rfl⟩
    · simp [flushPass, v, formedPass, formMember, Function.comp_def]
    · rw [setDiu_diu, histories]
      simp [v, formedPass, formMember, Function.comp_def]

end

section
/-! SUPPORT. A SPRAY taken up and a DRAIN taken up again without a finding (R66, R73, R85, R90). -/

namespace Sys2Proof.Machine

variable {s t u : State}

/-! ## The spraying members wetted (R96) -/

/-- The members with the spraying ones wetted. -/
def wettedMembers (l : List Member) : List Member :=
  l.map (fun m => if m.passed = false ∧ m.retiring = none then { m with wetted := true } else m)

theorem wetSpraying_eq (p : Pass) : wetSpraying p = { p with members := wettedMembers p.members } := by
  have same (m : Member) : (!m.passed && m.retiring.isNone) = true ↔ (m.passed = false ∧ m.retiring = none) := by simp
  simp only [wetSpraying, wettedMembers, same]

/-- Whatever a member's wetted mark, it is chosen the same. -/
theorem filter_wettedMembers (q : Member → Bool) (h : ∀ m : Member, q { m with wetted := true } = q m)
    (l : List Member) : (wettedMembers l).filter q = wettedMembers (l.filter q) := by
  unfold wettedMembers
  rw [List.filter_map]
  congr 2
  funext m
  by_cases sprays : m.passed = false ∧ m.retiring = none
  · simp only [Function.comp_apply, if_pos sprays, h]
  · simp only [Function.comp_apply, if_neg sprays]

theorem wettedMembers_index (l : List Member) : (wettedMembers l).map (·.index) = l.map (·.index) := by
  rw [wettedMembers, List.map_map]
  refine List.map_congr_left (fun m _ => ?_)
  by_cases sprays : m.passed = false ∧ m.retiring = none <;> simp [sprays]

theorem wettedMembers_length (l : List Member) : (wettedMembers l).length = l.length := by simp [wettedMembers]

theorem sprayingMembers_wetted (p : Pass) :
    sprayingMembers { p with members := wettedMembers p.members } = wettedMembers (sprayingMembers p) :=
  filter_wettedMembers _ (fun _ => rfl) _

/-! ## The entry of SPRAY without a finding (R66, R90) -/

/-- The pass as a SPRAY runs. -/
def sprayPass (p : Pass) : Pass :=
  { p with
    members := wettedMembers p.members, phase := .spray, dest := none, runDown := none, fromSpray := false,
    resumeAt := none, holdTimer := none, starveTimer := none }

/-- The state as a SPRAY runs. -/
def spraying (s : State) : State :=
  (s.setPass (sprayPass s.pass)).setPanel { s.panel with raw := { s.panel.raw with pumpStopped := false } }

theorem volumeTarget_sprayPass (p : Pass) : volumeTarget (sprayPass p) = volumeTarget p := by
  have members : sprayingMembers (sprayPass p) = wettedMembers (sprayingMembers p) := sprayingMembers_wetted p
  rw [volumeTarget, volumeTarget, members, wettedMembers_length]
  rfl

theorem volumeReached_sprayPass (p : Pass) : volumeReached (sprayPass p) = volumeReached p := by
  unfold volumeReached
  rw [volumeTarget_sprayPass]
  rfl

theorem nominalFlow_sprayPass (p : Pass) : nominalFlow (sprayPass p) = nominalFlow p := by
  have members : sprayingMembers (sprayPass p) = wettedMembers (sprayingMembers p) := sprayingMembers_wetted p
  rw [nominalFlow, nominalFlow, members, wettedMembers_length]
  rfl

theorem unseated_spraying (s : State) : unseated (spraying s) = unseated s := by
  have chosen := filter_wettedMembers (fun m => m.retiring.isNone && !headOn s m.index) (fun _ => rfl) s.pass.members
  exact (congrArg (List.map (·.index)) chosen).trans (wettedMembers_index _)

theorem flooded_spraying (s : State) : flooded (spraying s) = flooded s := by
  have members : sprayingMembers (sprayPass s.pass) = wettedMembers (sprayingMembers s.pass) :=
    sprayingMembers_wetted s.pass
  have chosen := filter_wettedMembers (fun m => probeWet s m.index) (fun _ => rfl) (sprayingMembers s.pass)
  show ((sprayingMembers (sprayPass s.pass)).filter (fun m => probeWet s m.index)).map (·.index) = _
  rw [members, chosen]
  exact wettedMembers_index _

/-- A SPRAY runs and leads to nothing else with every head seated, every probe dry and its volume to come. -/
theorem runSpray_eq (seated : unseated s = []) (dry : flooded s = []) (short : volumeReached s.pass = false)
    (goesOn : allRetiring s.pass = false) : runSpray s = spraying s := by
  have begun : runSpray s = settle (sprayFindings (spraying s)) := by
    unfold runSpray
    rw [wetSpraying_eq]
    rfl
  have findings : sprayFindings (spraying s) = spraying s := by
    unfold sprayFindings
    rw [unseated_spraying, flooded_spraying, seated, dry]
    rfl
  have goesOn' : allRetiring (spraying s).pass = false := by
    have same : (wettedMembers s.pass.members).all (fun m => m.retiring.isSome) = s.pass.members.all (fun m => m.retiring.isSome) := by
      rw [wettedMembers, List.all_map]
      congr 1
      funext m
      by_cases sprays : m.passed = false ∧ m.retiring = none <;> simp [sprays]
    exact same.trans goesOn
  have some : (spraying s).pass.members ≠ [] := by
    intro h
    rw [allRetiring, h] at goesOn'
    cases goesOn'
  have short' : volumeReached (spraying s).pass = false := (volumeReached_sprayPass s.pass).trans short
  rw [begun, findings]
  unfold settle
  by_cases takes : formed (spraying s).pass ∧ aborting (spraying s).pass = false
  · rw [if_pos takes, if_neg some, if_neg (ne_true_of_eq_false goesOn')]
    exact if_neg (ne_true_of_eq_false short')
  · rw [if_neg takes]

/-- A SPRAY that runs has the starvation inputs that it had before it. -/
theorem starveInputs_spraying (isFormed : formed s.pass) : starveInputs (spraying s) = starveInputs s := by
  have flow : nominalFlow (spraying s).pass = nominalFlow s.pass := nominalFlow_sprayPass s.pass
  have formed' : formed (spraying s).pass := ⟨nofun, nofun⟩
  unfold starveInputs
  rw [flow, decide_eq_true isFormed, decide_eq_true formed']
  rfl

/-! ## DRAIN taken up again (R73, R85) -/

/-- With every head seated and every named channel present a DRAIN goes on with its list. -/
theorem resumeDrain_eq {i : Nat} {l : List Nat} (seated : unseated s = []) (present : namedAbsent s = false)
    (some : s.pass.members ≠ []) (list : s.pass.drainList = i :: l) : resumeDrain s
      = openedDrain i (s.setPass { s.pass with phase := .drain, resumeAt := none, holdTimer := none }) := by
  let v := s.setPass { s.pass with phase := .drain, resumeAt := none, holdTimer := none }
  have seated' : unseated v = [] := seated
  have present' : namedAbsent v = false := present
  have findings : drainFindings v = v := by
    unfold drainFindings headCheck
    rw [seated']
    simp [faultEach]
  show drainOnOrEnd (drainFindings v) = _
  rw [findings, drainOnOrEnd, if_neg (by simp [v]), if_neg (by exact some)]
  have goes : drainOn v = openNext v := by
    unfold drainOn
    rw [show v.pass.drainList = i :: l from list]
  rw [goes]
  exact openNext_eq (l := l) rfl list (.inl present')

end Sys2Proof.Machine
end

section
/-! SUPPORT. RESUME in HELD (R85). -/

namespace Sys2Proof.Machine

variable {s : State}

theorem exec_resume (running : s.power = .running) : exec .resume s = .next (conclude s (takeResume s)) := by
  unfold exec execResume
  exact event_running _ s running

theorem takeResume_other (notHeld : s.pass.phase ≠ .held) (notGathering : s.pass.phase ≠ .gathering) :
    takeResume s = s := by
  unfold takeResume
  split <;> first | rfl | contradiction

theorem takeResume_inHeld (held : s.pass.phase = .held) : takeResume s = resumeHeld s := by simp [takeResume, held]

/-- RESUME at a resume point. -/
def resumedAt (r : ResumePoint) (s : State) : State :=
  match r with
  | .flush => resumeFlush s
  | .spray => resumeSpray s
  | .drain => resumeDrain s
  | .dry => resumeDry s
  | .next => beginStep (s.pass.nextStep.getD .following) s

theorem takeResume_at {r : ResumePoint} (held : s.pass.phase = .held) (at' : s.pass.resumeAt = some r) :
    takeResume s = resumedAt r s := by
  rw [takeResume_inHeld held, resumeHeld, at']
  cases r <;> rfl

/-- A pass in HELD is formed. -/
theorem formed_of_held {p : Pass} (h : p.phase = .held) : formed p := by simp [formed, h]

/-- The pass at its next stage, before the entry of that. -/
def atStage (stage : Nat) (s : State) : State := s.setPass { s.pass with stage := stage }

theorem stageOf_atStage {stage : Nat} {g : Stage} (h : (recipeOf s.pass).stages[stage - 1]? = some g) :
    stageOf (atStage stage s).pass = g := by
  have same : stageOf (atStage stage s).pass = ((recipeOf s.pass).stages[stage - 1]?).getD noStage := rfl
  rw [same, h]
  rfl

/-- The step decided begins the stage that it leads to, a further run of a FINAL_RINSE by its FLUSH. -/
theorem beginStep_eq {stage : Nat} {g : Stage} (n : NextStep)
    (hstage : stage = if n = .following then s.pass.stage + 1 else s.pass.stage)
    (h : (recipeOf s.pass).stages[stage - 1]? = some g) (notDry : g.kind ≠ .dry) :
    beginStep n s = enterFlush (atStage stage s) := by
  have kind : (stageOf (atStage stage s).pass).kind ≠ .dry := by rwa [stageOf_atStage h]
  have enters : enterStage (atStage stage s) = enterFlush (atStage stage s) := if_neg kind
  cases n with
  | firstStage =>
    obtain rfl : stage = s.pass.stage := hstage
    exact enters
  | again =>
    obtain rfl : stage = s.pass.stage := hstage
    rfl
  | following =>
    obtain rfl : stage = s.pass.stage + 1 := hstage
    exact enters

/-- A following DRY stage. -/
theorem beginStep_dry {g : Stage} (h : (recipeOf s.pass).stages[s.pass.stage]? = some g) (dry : g.kind = .dry) :
    beginStep .following s = enterDry (atStage (s.pass.stage + 1) s)
    ∧ stageOf (atStage (s.pass.stage + 1) s).pass = g := by
  have stage : stageOf (atStage (s.pass.stage + 1) s).pass = g := stageOf_atStage h
  exact ⟨if_pos (by rw [← dry, ← stage]; rfl), stage⟩

end Sys2Proof.Machine
end

section
open Sys2Proof Sys2Proof.Machine

/-- Settles O16: by the phase and the resume point, each taken up without a finding. -/
theorem resumeByPhase : Obligations.ResumeByPhase := by
  unfold Obligations.ResumeByPhase
  intro s running notGathering
  have taken := exec_resume running
  refine ⟨fun notHeld => ?_, fun held at' => ?_, fun held at' short starved => ?_,
    fun held at' short fed seated dry unaborted goesOn => ?_,
    fun held at' reached seated present unaborted unpassed => ?_,
    fun held at' seated some goesOn unaborted c t loopC loopT => ?_,
    fun i rest held at' seated some list present => ?_, fun g held at' step stage kind => ?_,
    fun step stage g held at' step' hstage stages kind seated some goesOn unaborted c t loopC loopT => ?_⟩
  · rw [takeResume_other notHeld notGathering] at taken
    have k := conclude_same s s rfl
    exact ⟨_, taken, k.pass, k.job, k.sameModule (.refl s), k.sameDiuFillFaults rfl rfl rfl, k.panel, k.sameShare rfl,
      k.sending rfl⟩
  · rw [takeResume_at held at'] at taken
    have k := conclude_phase s (resumeDry s) nofun nofun
    exact ⟨_, taken, k.pass, k.panel, k.job, k.sameModule (.refl s), k.sameDiuFillFaults rfl rfl rfl, k.sameShare rfl,
      k.sending rfl⟩
  · have effect : resumeSpray s = enterStarved s := by simp [resumeSpray, short, starved]
    rw [takeResume_at held at', show resumedAt .spray s = resumeSpray s from rfl, effect] at taken
    have k := conclude_same s (enterStarved s)
      (starveInputs_of_fields (by simp [enterStarved, formed, held]) rfl rfl rfl rfl rfl)
    refine ⟨_, taken, ?_⟩
    rw [k.pass]
    exact ⟨rfl, rfl, rfl, rfl, rfl, k.job, k.sameModule (.refl s), k.sameDiuFillFaults rfl rfl rfl, k.panel,
      k.sameShare rfl, k.sending rfl⟩
  · have effect : resumeSpray s = spraying s := by
      have runs := runSpray_eq seated dry short goesOn
      simp only [resumeSpray, short, fed, Bool.false_eq_true, if_false, runs]
    rw [takeResume_at held at', show resumedAt .spray s = resumeSpray s from rfl, effect] at taken
    have k := conclude_same s (spraying s) (starveInputs_spraying (formed_of_held held))
    refine ⟨_, taken, ?_⟩
    rw [k.pass]
    exact ⟨rfl, rfl, rfl, rfl, k.panel, k.job, k.sameModule (.refl s), k.sameDiuFillFaults rfl rfl rfl, k.sameShare rfl,
      k.sending rfl⟩
  · obtain ⟨m, hm, notPassed⟩ := unpassed
    obtain ⟨i, l, list⟩ := List.exists_cons_of_ne_nil (l := (s.pass.members.filter (fun m => !m.passed)).map (·.index))
      (List.ne_nil_of_mem (List.mem_map_of_mem (List.mem_filter.mpr ⟨hm, by simp [notPassed]⟩)))
    have effect : resumeSpray s = openedDrain i (standInDrain (i :: l) s) :=
      (if_pos reached).trans (enterDrain_eq seated present list)
    rw [takeResume_at held at', show resumedAt .spray s = resumeSpray s from rfl, effect] at taken
    have k := conclude_phase s (openedDrain i (standInDrain (i :: l) s)) nofun nofun
    refine ⟨_, taken, ?_⟩
    rw [k.pass, k.diu, k.share, list]
    exact ⟨rfl, rfl, rfl, rfl, rfl, rfl, rfl, rfl, rfl, rfl, rfl, k.panel, k.job, k.fill, k.faults,
      k.sameModule (.refl s), k.sending rfl⟩
  · obtain ⟨d, effect, clock⟩ := resumeFlush_eq seated some goesOn c t loopC loopT
    rw [takeResume_at held at', show resumedAt .flush s = resumeFlush s from rfl, effect] at taken
    have k := conclude_phase s (((s.setPanel (pumpedPanel s.panel)).setPass
      { s.pass with phase := .flush, resumeAt := none, holdTimer := none }).setDiu d) nofun nofun
    exact ⟨_, taken, k.pass, k.panel, by rw [k.diu]; exact clock, k.job, k.fill, k.faults, k.sameModule (.refl s),
      k.sameShare rfl, k.sending rfl⟩
  · have effect := resumeDrain_eq seated present some list
    rw [takeResume_at held at', show resumedAt .drain s = resumeDrain s from rfl, effect] at taken
    have k := conclude_phase s (openedDrain i (s.setPass
      { s.pass with phase := .drain, resumeAt := none, holdTimer := none })) nofun nofun
    exact ⟨_, taken, k.pass, k.diu, k.job, k.fill, k.faults, k.panel, k.sameModule (.refl s), k.sameShare rfl,
      k.sending rfl⟩
  · obtain ⟨effect, isStage⟩ := beginStep_dry stage kind
    rw [takeResume_at held at', resumedAt, step, Option.getD_some, effect] at taken
    have k := conclude_phase s (enterDry (atStage (s.pass.stage + 1) s)) nofun nofun
    refine ⟨_, taken, ?_⟩
    rw [k.pass]
    exact ⟨rfl, rfl, congrArg (fun x : Stage => x.timeLimit * 1000) isStage, rfl, rfl, k.job, k.sameModule (.refl s),
      k.sameDiuFillFaults rfl rfl rfl, k.sameShare rfl, k.sending rfl⟩
  · have isStage : stageOf (atStage stage s).pass = g := stageOf_atStage stages
    obtain ⟨d, entered, baseC, baseT, clock, histories⟩ :=
      enterFlush_eq (s := atStage stage s) seated some goesOn c t loopC loopT
    rw [takeResume_at held at', resumedAt, step', Option.getD_some, beginStep_eq step hstage stages kind, entered] at taken
    have k := conclude_phase s ((((atStage stage s).setPanel (pumpedPanel (atStage stage s).panel)).setPass
      (flushPass (atStage stage s).pass)).setDiu d) nofun nofun
    refine ⟨_, taken, ?_⟩
    rw [k.pass, k.diu]
    refine ⟨rfl, rfl, rfl, rfl, ?_, rfl, rfl, rfl, rfl, rfl, baseC, baseT, clock, histories, k.panel, k.job, k.fill,
      k.faults, k.sameModule (.refl s), k.sameShare rfl, k.sending rfl⟩
    show (if (stageOf (atStage stage s).pass).kind = .finalRinse then s.pass.repeats + 1 else s.pass.repeats) = _
    rw [isStage]

end

section
/-! SUPPORT. An abort (R99, R100): what it leaves, by the phase in which it is taken. -/

namespace Sys2Proof.Machine

variable {s t u : State}

/-! ## The end of an event that has asked for a BAY_STATUS -/

/-- A refresh asked for in a phase other than SPRAY and STARVED restarts the refresh timer by the end of the event. -/
theorem conclude_statusTimer_of_due_phase (s0 : State) (notSpray : u.pass.phase ≠ .spray)
    (notStarved : u.pass.phase ≠ .starved) (due : u.line.statusDue = true) :
    (conclude s0 u).line.statusTimer = some 10000 := by
  have looked : (lookConditions s0 u).line.statusDue = true := by
    obtain same | ⟨b, recorded⟩ := lookConditions_recorded s0 u notSpray notStarved
    · rwa [same]
    · rw [recorded]
      exact due
  have formed : (formDemand s0 (lookConditions s0 u)).line.statusDue = true := by simp [looked]
  unfold conclude
  rw [driveOutputs_line, refreshStatus_of_due s0 _ formed]
  exact sendNext_statusTimer _ (placeStatus_statusTimer _)

/-! ## Members taken back (R92, R131) -/

/-- The members that an abort takes back stand in the pass, in the result no more, and their compartments in the
table. -/
theorem takeBack_frame (s : State) : ∃ members departed table, takeBack s
    = (s.setPass { s.pass with members := members, departed := departed }).setJob { s.job with table := table } := by
  have back (l : List Left) (s : State) : ∃ members departed table, l.foldl (fun s x => takeBackOne x s) s
      = (s.setPass { s.pass with members := members, departed := departed }).setJob { s.job with table := table } := by
    induction l generalizing s with
    | nil => exact ⟨s.pass.members, s.pass.departed, s.job.table, rfl⟩
    | cons x l ih =>
      obtain ⟨members, departed, table, h⟩ := ih (takeBackOne x s)
      exact ⟨members, departed, table, h⟩
  exact back _ s

/-! ## What every abort does (R100) -/

/-- The pass at an abort, before its way to DRAIN_DOWN. -/
def abortedPass (code : Code) (s : State) : Pass :=
  { s.pass with
    abortCode := some code, pendingHold := false, resumeAt := none, nextStep := none, drainList := [],
    draining := none, spray := none, holdTimer := none, starveTimer := none,
    members := s.pass.members.map (fun m => { m with passed := false, signature := none })
    late := lateOfAbort code s }

/-- The DIU at an abort. -/
def abortedDiu (s : State) : Diu :=
  { s.diu with
    window := none, histories := []
    flushC := if s.pass.phase = .flush ∨ s.pass.resumeAt = some .flush then ⟨0, 0⟩ else s.diu.flushC
    flushT := if s.pass.phase = .flush ∨ s.pass.resumeAt = some .flush then ⟨0, 0⟩ else s.diu.flushT }

theorem takeAbort_eq (code : Code) (s : State) : takeAbort code s
    = (((s.setPass (abortedPass code s)).setDiu (abortedDiu s)).setShare
        { s.share with steady := none, steadyFlag := false }).setLine { s.line with statusDue := true } := by
  have flushes : inFlush s.pass = true ↔ s.pass.phase = .flush ∨ s.pass.resumeAt = some .flush := by simp [inFlush]
  unfold takeAbort abortedDiu
  by_cases inFlush' : s.pass.phase = .flush ∨ s.pass.resumeAt = some .flush
  · rw [leaveFlush_of_inFlush s (flushes.mpr inFlush'), if_pos inFlush', if_pos inFlush']
    rfl
  · rw [leaveFlush_of_not_inFlush s (by simpa using mt flushes.mp inFlush'), if_neg inFlush', if_neg inFlush']
    rfl

/-! ## The way to DRAIN_DOWN (R99) -/

/-- The pass in DRAIN_DOWN. -/
def inDrainDown (p : Pass) : Pass :=
  { p with
    phase := .drainDown, dest := none, runDown := none, fromSpray := false, holdTimer := none, starveTimer := none,
    drainDown := some { left := 120000, interval := 250, seen := false, quiet := 0 } }

/-- The pass in a run-down toward DRAIN_DOWN. -/
def toDrainDown (p : Pass) : Pass :=
  { p with phase := .runDown, dest := some .drainDown, runDown := some 5000, fromSpray := false }

/-- The pass on its way, by the phase in which the abort was taken and the pump-stopped line. -/
def onItsWay (phase : Phase) (stopped : Bool) (p : Pass) : Pass :=
  if phase = .drain ∨ phase = .held ∨ phase = .starved then inDrainDown p
  else if phase = .runDown then { p with dest := some .drainDown }
  else if stopped = true then inDrainDown (toDrainDown p) else toDrainDown p

theorem abortPass_eq (code : Code) (isFormed : formed s.pass) (notDrainDown : s.pass.phase ≠ .drainDown)
    (unaborted : s.pass.abortCode = none) : abortPass code s = (takeAbort code (takeBack s)).setPass
      (onItsWay s.pass.phase s.panel.level.pumpStopped (takeAbort code (takeBack s)).pass) := by
  have notAborting : ¬ aborting s.pass = true := by simp [aborting, unaborted]
  have level : (takeAbort code (takeBack s)).panel.level = s.panel.level := by
    obtain ⟨members, departed, table, back⟩ := takeBack_frame s
    rw [takeAbort_eq, back]
    rfl
  have runsDown : runDownToDrainDown (takeAbort code (takeBack s)) = (takeAbort code (takeBack s)).setPass
      (if s.panel.level.pumpStopped = true then inDrainDown (toDrainDown (takeAbort code (takeBack s)).pass)
        else toDrainDown (takeAbort code (takeBack s)).pass) := by
    unfold runDownToDrainDown
    dsimp only
    have same : (enterRunDown .drainDown false (takeAbort code (takeBack s))).panel.level.pumpStopped
        = s.panel.level.pumpStopped := congrArg Lines.pumpStopped level
    rw [same]
    split <;> rfl
  unfold abortPass
  rw [if_neg notAborting]
  cases phase : s.pass.phase with
  | none => exact absurd phase isFormed.1
  | gathering => exact absurd phase isFormed.2
  | drainDown => exact absurd phase notDrainDown
  | drain | held | starved | runDown => rfl
  | flush | spray | dry => exact runsDown

theorem onItsWay_frame (phase : Phase) (stopped : Bool) (p : Pass) :
    ∃ phase' dest runDown fromSpray holdTimer starveTimer drainDown, onItsWay phase stopped p = { p with
      phase := phase', dest := dest, runDown := runDown, fromSpray := fromSpray, holdTimer := holdTimer,
      starveTimer := starveTimer, drainDown := drainDown } := by
  unfold onItsWay
  split
  · exact ⟨_, _, _, _, _, _, _, rfl⟩
  · split
    · exact ⟨_, _, _, _, _, _, _, rfl⟩
    · split <;> exact ⟨_, _, _, _, _, _, _, rfl⟩

end Sys2Proof.Machine
end

section
/-! SUPPORT. An abort to the end of its event, said once (R99, R100). -/

namespace Sys2Proof.Machine

variable {s t u w : State}

/-- `t` is `w` after an abort with `code`, at the end of the event. -/
structure Aborted (code : Code) (w t : State) : Prop where
  abortCode : t.pass.abortCode = some code
  cleared : t.pass.pendingHold = false ∧ t.pass.resumeAt = none ∧ t.pass.drainList = [] ∧ t.pass.draining = none
    ∧ t.pass.spray = none
  kept : t.pass.stage = w.pass.stage ∧ (t.pass.class2, t.pass.class3) = (w.pass.class2, w.pass.class3)
  diu : t.diu = abortedDiu w
  timer : t.line.statusTimer = some 10000
  steady : t.share.steadyFlag = false ∧ t.share.steady = none
  standing : w.pass.phase = .drain ∨ w.pass.phase = .held ∨ w.pass.phase = .starved → t.pass.phase = .drainDown
    ∧ t.pass.drainDown = some { left := 120000, interval := 250, seen := false, quiet := 0 }
  running : w.pass.phase = .flush ∨ w.pass.phase = .spray ∨ w.pass.phase = .dry →
    (w.panel.level.pumpStopped = false → t.pass.phase = .runDown ∧ t.pass.dest = some .drainDown
      ∧ t.pass.runDown = some 5000)
    ∧ (w.panel.level.pumpStopped = true → t.pass.phase = .drainDown)
  turned : w.pass.phase = .runDown → t.pass.phase = .runDown ∧ t.pass.dest = some .drainDown
    ∧ t.pass.runDown = w.pass.runDown
  phase : t.pass.phase = .runDown ∨ t.pass.phase = .drainDown
  noneLeft : w.pass.late.left = [] →
    t.pass.members = w.pass.members.map (fun m => { m with passed := false, signature := none })
    ∧ t.pass.late = lateOfAbort code w ∧ t.job = w.job
  oneLeft : ∀ x : Left, w.pass.late.left = [x] →
    t.pass.members = (insertMember x.member w.pass.members).map
      (fun m => { m with passed := false, signature := none })
    ∧ t.pass.departed = w.pass.departed.filter (fun r => r.index != x.member.index)
    ∧ t.job = { w.job with table := w.job.table.map (fun c =>
        if c.index = x.member.index then { c with state := .washing, keyMark := x.mark } else c) }
  jobFrame : t.job = { w.job with table := t.job.table }
  fill : t.fill = w.fill
  faults : t.faults = w.faults
  panel : t.panel = w.panel
  module : SameModule w t
  line : Sending w.line.fifo w t

/-- The state that an abort leads to. -/
def abortedState (code : Code) (w : State) : State :=
  ((((takeBack w).setPass (onItsWay w.pass.phase w.panel.level.pumpStopped (abortedPass code (takeBack w)))).setDiu
    (abortedDiu (takeBack w))).setShare { (takeBack w).share with steady := none, steadyFlag := false }).setLine
      { (takeBack w).line with statusDue := true }

theorem abortPass_abortedState (code : Code) (isFormed : formed w.pass) (notDrainDown : w.pass.phase ≠ .drainDown)
    (unaborted : w.pass.abortCode = none) : abortPass code w = abortedState code w := by
  rw [abortPass_eq code isFormed notDrainDown unaborted, takeAbort_eq]
  rfl

/-- Beside the pass and the table an abort changes the DIU, the steady timer and what asks for a BAY_STATUS. -/
theorem abortedState_frame (code : Code) (w : State) : SameModule w (abortedState code w)
    ∧ (abortedState code w).job = { w.job with table := (abortedState code w).job.table }
    ∧ (abortedState code w).diu = abortedDiu w ∧ (abortedState code w).fill = w.fill
    ∧ (abortedState code w).faults = w.faults ∧ (abortedState code w).panel = w.panel
    ∧ (abortedState code w).line.fifo = w.line.fifo ∧ (abortedState code w).line.bus = w.line.bus
    ∧ (abortedState code w).share.steadyFlag = false ∧ (abortedState code w).share.steady = none := by
  obtain ⟨members, departed, table, back⟩ := takeBack_frame w
  unfold abortedState
  rw [back]
  exact ⟨.refl w, rfl, rfl, rfl, rfl, rfl, rfl, rfl, rfl, rfl⟩

/-- The pass at an abort: what it was, cleared, with the members that it stands with. -/
theorem abortedPass_frame (code : Code) (w : State) : ∃ members departed late,
    abortedPass code (takeBack w) = { w.pass with
      abortCode := some code, pendingHold := false, resumeAt := none, nextStep := none, drainList := [],
      draining := none, spray := none, holdTimer := none, starveTimer := none, members := members,
      departed := departed, late := late } := by
  obtain ⟨members, departed, table, back⟩ := takeBack_frame w
  unfold abortedPass
  rw [back]
  exact ⟨_, _, _, rfl⟩

theorem onItsWay_phase {phase : Phase} {stopped : Bool} {p : Pass} (same : p.phase = phase) :
    (onItsWay phase stopped p).phase = .runDown ∨ (onItsWay phase stopped p).phase = .drainDown := by
  unfold onItsWay
  split
  · exact .inr rfl
  · split
    next runDown => exact .inl (same.trans runDown)
    · split
      · exact .inr rfl
      · exact .inl rfl

/-- What the way to DRAIN_DOWN changes of the pass. -/
theorem onItsWay_fields (phase : Phase) (stopped : Bool) (p : Pass) : (onItsWay phase stopped p).abortCode = p.abortCode
    ∧ (onItsWay phase stopped p).pendingHold = p.pendingHold ∧ (onItsWay phase stopped p).resumeAt = p.resumeAt
    ∧ (onItsWay phase stopped p).drainList = p.drainList ∧ (onItsWay phase stopped p).draining = p.draining
    ∧ (onItsWay phase stopped p).spray = p.spray ∧ (onItsWay phase stopped p).stage = p.stage
    ∧ (onItsWay phase stopped p).class2 = p.class2 ∧ (onItsWay phase stopped p).class3 = p.class3
    ∧ (onItsWay phase stopped p).members = p.members ∧ (onItsWay phase stopped p).departed = p.departed
    ∧ (onItsWay phase stopped p).late = p.late := by
  unfold onItsWay
  split
  · exact ⟨rfl, rfl, rfl, rfl, rfl, rfl, rfl, rfl, rfl, rfl, rfl, rfl⟩
  · split
    · exact ⟨rfl, rfl, rfl, rfl, rfl, rfl, rfl, rfl, rfl, rfl, rfl, rfl⟩
    · split <;> exact ⟨rfl, rfl, rfl, rfl, rfl, rfl, rfl, rfl, rfl, rfl, rfl, rfl⟩

/-- The phases of the way, by the phase in which the abort was taken. -/
theorem onItsWay_phases (phase : Phase) (stopped : Bool) (p : Pass) (same : p.phase = phase) :
    (phase = .drain ∨ phase = .held ∨ phase = .starved → (onItsWay phase stopped p).phase = .drainDown
      ∧ (onItsWay phase stopped p).drainDown = some { left := 120000, interval := 250, seen := false, quiet := 0 })
    ∧ (phase = .flush ∨ phase = .spray ∨ phase = .dry →
      (stopped = false → (onItsWay phase stopped p).phase = .runDown
        ∧ (onItsWay phase stopped p).dest = some .drainDown ∧ (onItsWay phase stopped p).runDown = some 5000)
      ∧ (stopped = true → (onItsWay phase stopped p).phase = .drainDown))
    ∧ (phase = .runDown → (onItsWay phase stopped p).phase = .runDown
      ∧ (onItsWay phase stopped p).dest = some .drainDown ∧ (onItsWay phase stopped p).runDown = p.runDown) := by
  refine ⟨fun standing => ?_, fun running => ⟨fun runs => ?_, fun isStopped => ?_⟩, fun runDown => ?_⟩
  · rw [onItsWay, if_pos standing]
    exact ⟨rfl, rfl⟩
  · rw [onItsWay, if_neg (by obtain h | h | h := running <;> simp [h]),
      if_neg (by obtain h | h | h := running <;> simp [h]), if_neg (by simp [runs])]
    exact ⟨rfl, rfl, rfl⟩
  · rw [onItsWay, if_neg (by obtain h | h | h := running <;> simp [h]),
      if_neg (by obtain h | h | h := running <;> simp [h]), if_pos isStopped]
    rfl
  · rw [onItsWay, if_neg (by simp [runDown]), if_pos runDown]
    exact ⟨same.trans runDown, rfl, rfl⟩

/-- An abort taken in an event that has begun in `s0`. -/
theorem abortPass_aborted (code : Code) (s0 : State) (isFormed : formed w.pass) (notDrainDown : w.pass.phase ≠ .drainDown)
    (unaborted : w.pass.abortCode = none) : Aborted code w (conclude s0 (abortPass code w)) := by
  rw [abortPass_abortedState code isFormed notDrainDown unaborted]
  obtain ⟨module, job, diu, fill, faults, panel, fifo, bus, flag, steady⟩ := abortedState_frame code w
  obtain ⟨members, departed, late, cleared⟩ := abortedPass_frame code w
  have samePhase : (abortedPass code (takeBack w)).phase = w.pass.phase := by rw [cleared]
  have phase := onItsWay_phase (stopped := w.panel.level.pumpStopped) samePhase
  obtain ⟨code', hold, resumeAt, drainList, draining, spray, stage, class2, class3, members', departed', late'⟩ :=
    onItsWay_fields w.pass.phase w.panel.level.pumpStopped (abortedPass code (takeBack w))
  obtain ⟨standing, running, turned⟩ :=
    onItsWay_phases w.pass.phase w.panel.level.pumpStopped (abortedPass code (takeBack w)) samePhase
  have passed : (abortedState code w).pass
    = onItsWay w.pass.phase w.panel.level.pumpStopped (abortedPass code (takeBack w)) := rfl
  have backJob : (abortedState code w).job = (takeBack w).job := rfl
  have notSpray : (abortedState code w).pass.phase ≠ .spray := by
    rw [passed]
    obtain h | h := phase <;> simp [h]
  have notStarved : (abortedState code w).pass.phase ≠ .starved := by
    rw [passed]
    obtain h | h := phase <;> simp [h]
  have k := conclude_phase s0 (abortedState code w) notSpray notStarved
  have timer := conclude_statusTimer_of_due_phase s0 notSpray notStarved rfl
  generalize conclude s0 (abortedState code w) = t at k timer ⊢
  have pass := k.pass.trans passed
  constructor
  case abortCode => rw [pass, code', cleared]
  case cleared => exact ⟨by rw [pass, hold, cleared], by rw [pass, resumeAt, cleared],
    by rw [pass, drainList, cleared], by rw [pass, draining, cleared], by rw [pass, spray, cleared]⟩
  case kept => exact ⟨by rw [pass, stage, cleared], by rw [pass, class2, class3, cleared]⟩
  case diu => exact k.diu.trans diu
  case timer => exact timer
  case steady => rw [k.share]; exact ⟨flag, steady⟩
  case standing => rw [pass]; exact standing
  case running => rw [pass]; exact running
  case turned =>
    intro runDown
    obtain ⟨phase, dest, left⟩ := turned runDown
    rw [pass]
    exact ⟨phase, dest, by rw [left, cleared]⟩
  case phase => rw [pass]; exact phase
  case noneLeft =>
    intro left
    have same : takeBack w = w := takeBack_of_none w left
    rw [pass, members', late', k.job, backJob, same]
    exact ⟨rfl, rfl, rfl⟩
  case oneLeft =>
    intro x left
    have one : takeBack w = _ := (takeBack_of_one w x left).trans (takeBackOne_eq w x)
    rw [pass, members', departed', k.job, backJob, one]
    exact ⟨rfl, rfl, rfl⟩
  case jobFrame => rw [k.job]; exact job
  case fill => exact k.fill.trans fill
  case faults => exact k.faults.trans faults
  case panel => exact k.panel.trans panel
  case module => exact k.sameModule module
  case line => exact ⟨k.line.1.trans fifo, k.line.2.trans bus⟩

end Sys2Proof.Machine
end

section
/-! SUPPORT. ABANDON and the expiries that abort (R84, R87, R104). -/

namespace Sys2Proof.Machine

variable {s : State}

theorem exec_abandon (switches : Lines8) (running : s.power = .running) : exec (.abandon switches) s
    = .next (conclude s (takeAbandon (selection switches s) (takeSwitches switches s))) := by
  unfold exec execAbandon
  exact event_running _ s running

/-- The compartment being filled is not in the selection. -/
theorem fillSelected_of_not {sel : List Nat} (h : ∀ i, filling? s = some i → i ∉ sel) : fillSelected sel s = false := by
  unfold fillSelected
  split
  · rfl
  next i hi => simpa using h i hi

theorem fillSelected_of_mem {sel : List Nat} {x : FillCtx} (hctx : s.fill.ctx = some x) (mem : x.compartment ∈ sel) :
    fillSelected sel s = true := by
  have filling : filling? s = some x.compartment := by rw [filling?, hctx]; rfl
  simp [fillSelected, filling, mem]

/-- What may still come after an abort is seen by the heads, the probes and the channels. -/
theorem lateOfAbort_setPanel (code : Code) {p : Panel} (head : p.level.head = s.panel.level.head)
    (probe : p.level.probe = s.panel.level.probe) : lateOfAbort code (s.setPanel p) = lateOfAbort code s := by
  have heads : watchedHeads (s.setPanel p) = watchedHeads s := by simp [watchedHeads, headOn, head]
  have probes : watchedProbes (s.setPanel p) = watchedProbes s := by simp [watchedProbes, probeWet, probe]
  rw [lateOfAbort, lateOfAbort, heads, probes]
  rfl

end Sys2Proof.Machine
end

section
open Sys2Proof Sys2Proof.Machine

/-- Settles O17: ABANDON by its checks, and every abort as `abortPass_aborted` says. -/
theorem abandonAndAbortsByPhase : Obligations.AbandonAndAbortsByPhase := by
  unfold Obligations.AbandonAndAbortsByPhase
  refine ⟨fun switches s running notGathering => ⟨_, exec_abandon switches running, fun none unselected => ?_,
    fun active aborts unselected => ?_, fun x hctx selected => ?_⟩,
    fun c code s running isFormed notDrainDown unaborted hc => ?_⟩
  · have effect : takeAbandon (selection switches s) (takeSwitches switches s)
        = refuse .nothingActive (takeSwitches switches s) :=
      (if_neg notGathering).trans ((if_neg (ne_true_of_eq_false (fillSelected_of_not (s := takeSwitches switches s)
        unselected))).trans (if_pos none))
    rw [effect]
    exact refuse_takeSwitches_concluded .nothingActive switches s running
  · have effect : takeAbandon (selection switches s) (takeSwitches switches s) = takeSwitches switches s :=
      (if_neg notGathering).trans ((if_neg (ne_true_of_eq_false (fillSelected_of_not (s := takeSwitches switches s)
        unselected))).trans ((if_neg active).trans (if_pos aborts)))
    rw [effect]
    have k := conclude_same s (takeSwitches switches s) rfl
    exact ⟨k.pass, k.job, takeSwitches_taken switches k.panel, k.sameDiuFillFaults rfl rfl rfl⟩
  · have effect : takeAbandon (selection switches s) (takeSwitches switches s)
        = stopFill .abandoned (takeSwitches switches s) :=
      (if_neg notGathering).trans (if_pos (fillSelected_of_mem (s := takeSwitches switches s) hctx selected))
    rw [effect]
    obtain ⟨estimate, ctx, -, -, job, pass, diu, share, module, panel, faults, line⟩ :=
      stopFill_concluded (w := takeSwitches switches s) .abandoned hctx rfl
    exact ⟨pass, job, diu, faults, takeSwitches_taken switches panel, share, line rfl, module, estimate, ctx⟩
  · obtain ⟨p, ⟨level, head, probe⟩, taken⟩ : ∃ p : Panel, (p.level.pumpStopped = s.panel.level.pumpStopped
          ∧ p.level.head = s.panel.level.head ∧ p.level.probe = s.panel.level.probe)
        ∧ exec c s = .next (conclude s (abortPass code (s.setPanel p))) := by
      obtain ⟨⟨switches, rfl, unselected⟩, rfl⟩ | ⟨rfl, held, rfl⟩ | ⟨rfl, starved, rfl⟩ := hc
      · refine ⟨(takeSwitches switches s).panel, ⟨rfl, rfl, rfl⟩, ?_⟩
        have effect : takeAbandon (selection switches s) (takeSwitches switches s)
            = abortPass .abandoned (takeSwitches switches s) :=
          (if_neg isFormed.2).trans ((if_neg (ne_true_of_eq_false (fillSelected_of_not (s := takeSwitches switches s)
            unselected))).trans (if_neg isFormed.1))
        rw [exec_abandon switches running, effect]
        rfl
      · refine ⟨s.panel, ⟨rfl, rfl, rfl⟩, ?_⟩
        have effect : holdTooLong s = abortPass .holdTooLong s := if_pos held
        rw [show s.setPanel s.panel = s from rfl, ← effect]
        unfold exec execHoldTimerExpiry
        exact event_running _ s running
      · refine ⟨s.panel, ⟨rfl, rfl, rfl⟩, ?_⟩
        have effect : supplyLost s = abortPass .supplyLost s := if_pos starved
        rw [show s.setPanel s.panel = s from rfl, ← effect]
        unfold exec execStarvationTimerExpiry
        exact event_running _ s running
    have a := abortPass_aborted (w := s.setPanel p) code s isFormed notDrainDown unaborted
    obtain ⟨hold, resumeAt, drainList, draining, spray⟩ := a.cleared
    refine ⟨_, taken, a.abortCode, hold, resumeAt, drainList, draining, a.kept.1, a.kept.2, a.diu, spray, a.timer,
      a.steady.1, a.steady.2, a.standing, fun running => ?_, a.turned, fun left => ?_, a.oneLeft, a.fill, a.faults,
      a.module, a.line⟩
    · rw [← level]
      exact a.running running
    · rw [← lateOfAbort_setPanel code head probe]
      exact a.noneLeft left

end

section
/-! SUPPORT. A pass-scope fault under a tolerance level (R81, R91, R92). -/

namespace Sys2Proof.Machine

variable {s t u w : State}

/-- A pass-scope fault that finds the pass not aborting is counted or aborts it. -/
theorem passFault_of_unaborted {k : FaultKind} {cls : Nat} {f : State → State} (unaborted : w.pass.abortCode = none) :
    passFault k cls f w = if filtered w.pass.tolerance cls = true then
        f (countPass cls (raiseFault k none (some w.pass.stage) w))
      else abortPass k.code (raiseFault k none (some w.pass.stage) w) := by
  unfold passFault
  exact if_neg (by simp [aborting, unaborted])

/-- The count of a class raised by one (R81). -/
def countedPass (cls : Nat) (p : Pass) : Pass :=
  { p with class2 := if cls = 2 then p.class2 + 1 else p.class2, class3 := if cls = 2 then p.class3 else p.class3 + 1 }

theorem countPass_eq (cls : Nat) (s : State) : countPass cls s = s.setPass (countedPass cls s.pass) := by
  unfold countPass countedPass
  by_cases h : cls = 2 <;> simp [h]

theorem countedPass_classes (cls : Nat) (p : Pass) : ((countedPass cls p).class2, (countedPass cls p).class3)
    = if cls = 2 then (p.class2 + 1, p.class3) else (p.class2, p.class3 + 1) := by
  unfold countedPass
  by_cases h : cls = 2 <;> simp [h]

/-- `p` is the pass of `s` in its phase, stage, members and counts, not aborting. -/
structure Before (s : State) (p : Pass) : Prop where
  phase : p.phase = s.pass.phase
  stage : p.stage = s.pass.stage
  recipe : p.recipeData = s.pass.recipeData
  members : p.members = s.pass.members
  departed : p.departed = s.pass.departed
  left : p.late.left = s.pass.late.left
  tolerance : p.tolerance = s.pass.tolerance
  classes : (p.class2, p.class3) = (s.pass.class2, s.pass.class3)
  unaborted : p.abortCode = none

/-- The record of a pass-scope fault. -/
def passFaultRec (k : FaultKind) (s : State) : FaultRec where
  kind := k
  source := .pass
  compartment := none
  stage := some s.pass.stage
  time := s.job.clock

/-- The state with a pass-scope fault in its empty record, `l` the yard line interface that its notice leads to. -/
def faulted (k : FaultKind) (d : Diu) (p : Pass) (l : YardLine) (s : State) : State :=
  (((s.setDiu d).setPass p).setFaults { s.faults with record := some (passFaultRec k s) }).setLine l

/-- A pass-scope fault raised first, before what it leads to. -/
theorem Before.raised {k : FaultKind} {p : Pass} (h : Before s p) (d : Diu) (ofPass : k.source = .pass)
    (empty : s.faults.record = none) (room : FifoBounded s) :
    ∃ l : YardLine, raiseFault k none (some p.stage) ((s.setDiu d).setPass p) = faulted k d p l s
      ∧ l.fifo = joined [.fault (passFaultRec k s)] s ∧ l.bus = s.line.bus := by
  have isF : faultRecOf k none (some p.stage) ((s.setDiu d).setPass p) = passFaultRec k s := by
    rw [faultRecOf, ofPass, h.stage]
    rfl
  have faults := raiseFault_empty k none (some p.stage) (s := (s.setDiu d).setPass p) empty
  have fifo := raiseFault_empty_fifo k none (some p.stage) (s := (s.setDiu d).setPass p) empty room
  obtain ⟨same, bus⟩ := raiseFault_rest k none (some p.stage) ((s.setDiu d).setPass p)
  rw [isF] at faults fifo
  refine ⟨(raiseFault k none (some p.stage) ((s.setDiu d).setPass p)).line, ?_, fifo, bus⟩
  rw [faults] at same
  exact same

/-- What a pass-scope fault that is not filtered leads to (R92, R100). -/
theorem Before.aborts {k : FaultKind} {cls : Nat} {f : State → State} {p : Pass} (h : Before s p) (d : Diu)
    (ofPass : k.source = .pass) (empty : s.faults.record = none) (room : FifoBounded s)
    (running : s.pass.phase = .flush ∨ s.pass.phase = .spray ∨ s.pass.phase = .dry)
    (unfiltered : filtered s.pass.tolerance cls = false) :
    let t := conclude s (passFault k cls f ((s.setDiu d).setPass p))
    t.faults.record = some (passFaultRec k s) ∧ t.line.fifo = joined [.fault (passFaultRec k s)] s ∧ t.fill = s.fill
    ∧ (s.pass.late.left = [] → t.job = s.job)
    ∧ (∀ x : Left, s.pass.late.left = [x] →
        t.pass.members = (insertMember x.member s.pass.members).map
          (fun m => { m with passed := false, signature := none })
        ∧ t.pass.departed = s.pass.departed.filter (fun r => r.index != x.member.index)
        ∧ t.job = { s.job with table := s.job.table.map (fun c =>
            if c.index = x.member.index then { c with state := .washing, keyMark := x.mark } else c) })
    ∧ t.line.statusTimer = some 10000
    ∧ t.pass.abortCode = some k.code ∧ (t.pass.class2, t.pass.class3) = (s.pass.class2, s.pass.class3)
    ∧ t.diu.histories = [] ∧ t.diu.window = none ∧ t.share.steadyFlag = false
    ∧ (s.panel.level.pumpStopped = false → t.pass.phase = .runDown ∧ t.pass.dest = some .drainDown)
    ∧ (s.panel.level.pumpStopped = true → t.pass.phase = .drainDown) := by
  obtain ⟨l, raised, fifo, bus⟩ := h.raised (k := k) d ofPass empty room
  let v := faulted k d p l s
  have effect : passFault k cls f ((s.setDiu d).setPass p) = abortPass k.code v := by
    rw [passFault_of_unaborted (w := (s.setDiu d).setPass p) h.unaborted]
    have notFiltered : ¬ filtered ((s.setDiu d).setPass p).pass.tolerance cls = true := by
      rw [show ((s.setDiu d).setPass p).pass.tolerance = _ from h.tolerance, unfiltered]
      exact Bool.false_ne_true
    rw [if_neg notFiltered]
    exact congrArg (abortPass k.code) raised
  have running' : v.pass.phase = .flush ∨ v.pass.phase = .spray ∨ v.pass.phase = .dry := by
    rw [show v.pass.phase = s.pass.phase from h.phase]
    exact running
  have isFormed : formed v.pass := by obtain h | h | h := running' <;> simp [formed, h]
  have notDrainDown : v.pass.phase ≠ .drainDown := by obtain h | h | h := running' <;> simp [h]
  have a := abortPass_aborted (w := v) k.code s isFormed notDrainDown h.unaborted
  rw [effect]
  intro t
  refine ⟨congrArg Faults.record a.faults, a.line.1.trans fifo, a.fill, fun left => (a.noneLeft (h.left.trans left)).2.2,
    fun x left => ?_, a.timer, a.abortCode, a.kept.2.trans h.classes, congrArg Diu.histories a.diu,
    congrArg Diu.window a.diu, a.steady.1, fun runs => ?_, (a.running running').2⟩
  · obtain ⟨members, departed, job⟩ := a.oneLeft x (h.left.trans left)
    exact ⟨members.trans (by rw [show v.pass.members = _ from h.members]),
      departed.trans (by rw [show v.pass.departed = _ from h.departed]), job⟩
  · obtain ⟨phase, dest, -⟩ := (a.running running').1 runs
    exact ⟨phase, dest⟩

/-- What a pass-scope fault that is filtered leads to: its class counted, and what its own rule says (R81). -/
theorem Before.counts {k : FaultKind} {cls : Nat} {f : State → State} {p : Pass} (h : Before s p) (d : Diu)
    (ofPass : k.source = .pass) (empty : s.faults.record = none) (room : FifoBounded s)
    (isFiltered : filtered s.pass.tolerance cls = true) :
    ∃ l : YardLine, passFault k cls f ((s.setDiu d).setPass p) = f (faulted k d (countedPass cls p) l s)
      ∧ l.fifo = joined [.fault (passFaultRec k s)] s ∧ l.bus = s.line.bus := by
  obtain ⟨l, raised, fifo, bus⟩ := h.raised (k := k) d ofPass empty room
  refine ⟨l, ?_, fifo, bus⟩
  rw [passFault_of_unaborted (w := (s.setDiu d).setPass p) h.unaborted]
  have isFiltered' : filtered ((s.setDiu d).setPass p).pass.tolerance cls = true := by
    rw [show ((s.setDiu d).setPass p).pass.tolerance = _ from h.tolerance, isFiltered]
  rw [if_pos isFiltered', show raiseFault k none (some ((s.setDiu d).setPass p).pass.stage) _ = _ from raised, countPass_eq]
  rfl

end Sys2Proof.Machine
end

section
/-! SUPPORT. The three pass-scope faults of FLUSH and SPRAY, filtered (R69, R71, R91). -/

namespace Sys2Proof.Machine

variable {s t u w : State}

/-- A fault filtered, to the end of its event: what every rule that follows it leaves. -/
theorem faulted_concluded {k : FaultKind} (c : Concluded u t) (faults : u.faults.record = some (passFaultRec k s))
    (fifo : u.line.fifo = joined [.fault (passFaultRec k s)] s) (job : u.job = s.job) (fill : u.fill = s.fill) :
    t.faults.record = some (passFaultRec k s) ∧ t.line.fifo = joined [.fault (passFaultRec k s)] s ∧ t.job = s.job
    ∧ t.fill = s.fill :=
  ⟨by rw [c.faults, faults], c.line.1.trans fifo, c.job.trans job, c.fill.trans fill⟩

/-- The inspection skipped in FLUSH (R91, R114). -/
theorem skipInspection_flush (flush : s.pass.phase = .flush) :
    skipInspection s = (s.setPass { s.pass with skipped := true }).setDiu s.diu.clearFlush := if_pos flush

/-- SENSOR_ABSENT of a named channel lost in FLUSH (R91). -/
theorem channelAbsent_flush {ch : Channel} (flush : s.pass.phase = .flush) (unskipped : s.pass.skipped = false)
    (unaborted : s.pass.abortCode = none) (named : names (stageOf s.pass).inspection ch = true) :
    sensorCheck (s.setDiu (updLoop ch Loop.lose s.diu))
      = passFault .sensorAbsent (if (stageOf s.pass).kind = .finalRinse then 1 else 3) skipInspection
        ((s.setDiu (updLoop ch Loop.lose s.diu)).setPass (s.pass.setLate { s.pass.late with sensor := false })) := by
  have absent : namedAbsent (s.setDiu (updLoop ch Loop.lose s.diu)) = true := namedAbsent_of_lost named
  have fault : sensorFault (s.setDiu (updLoop ch Loop.lose s.diu)) = true := by
    simp [sensorFault, absent, watchesSensors, flush, unskipped, aborting, unaborted]
  unfold sensorCheck
  rw [if_pos (by rw [fault]; rfl)]
  rfl

/-- STAGE_TIME in SPRAY (R69). -/
theorem reachTimeLimit_spray {r : SprayRecord} (spray : s.pass.phase = .spray) (record : s.pass.spray = some r)
    (unaborted : s.pass.abortCode = none) : reachTimeLimit s = passFault .stageTime 3 enterDrain (s.setPass
      { s.pass with spray := some { r with timeMs := max r.timeMs ((stageOf s.pass).timeLimit * 1000) } }) := by
  unfold reachTimeLimit
  rw [if_neg (by simp [aborting, unaborted, spray]), record]
  exact if_pos spray

/-- TEMP_LOW in the SPRAY of a hot stage, not raised in it before (R71). -/
theorem reachTempLow_spray {r : SprayRecord} (spray : s.pass.phase = .spray) (record : s.pass.spray = some r)
    (notRaised : r.tempRaised = false) (hot : (stageOf s.pass).hot = true) (unaborted : s.pass.abortCode = none) :
    reachTempLow s = passFault .tempLow 2 id (s.setPass
      { s.pass with spray := some { r with lowMs := max r.lowMs Config.tempLowLimit, tempRaised := true } }) := by
  unfold reachTempLow
  rw [if_neg (by simp [aborting, unaborted, spray]), record]
  refine (if_pos ⟨spray, hot, notRaised⟩).trans ?_
  exact if_pos ⟨le_max_right _ _, notRaised⟩

/-- With its class counted SENSOR_ABSENT skips the inspection and the FLUSH goes on (R64, R91, R114). -/
theorem skipped_concluded {p : Pass} {l : YardLine} {d : Diu} (flush : p.phase = .flush)
    (fifo : l.fifo = joined [.fault (passFaultRec .sensorAbsent s)] s) :
    let t := conclude s (skipInspection (faulted .sensorAbsent d p l s))
    (t.faults.record = some (passFaultRec .sensorAbsent s)
      ∧ t.line.fifo = joined [.fault (passFaultRec .sensorAbsent s)] s ∧ t.job = s.job ∧ t.fill = s.fill)
    ∧ t.pass = { p with skipped := true } ∧ t.diu = d.clearFlush := by
  rw [skipInspection_flush (s := faulted .sensorAbsent d p l s) flush]
  let u := ((faulted .sensorAbsent d p l s).setPass { p with skipped := true }).setDiu d.clearFlush
  have phase : u.pass.phase = .flush := flush
  have k := conclude_phase s u (by rw [phase]; exact nofun) (by rw [phase]; exact nofun)
  exact ⟨faulted_concluded (s := s) (u := u) k rfl fifo rfl rfl, k.pass, k.diu⟩

/-- The entry of DRAIN leaves the job unit, the fill unit, the fault record and the yard line interface. -/
theorem drainEntered_frame (i : Nat) (l : List Nat) (v : State) :
    (openedDrain i (standInDrain l v)).job = v.job ∧ (openedDrain i (standInDrain l v)).fill = v.fill
    ∧ (openedDrain i (standInDrain l v)).faults = v.faults ∧ (openedDrain i (standInDrain l v)).line = v.line :=
  ⟨rfl, rfl, rfl, rfl⟩

/-- With its class counted STAGE_TIME ends the SPRAY in DRAIN (R69, R73). -/
theorem drained_concluded {p : Pass} {l : YardLine} {d : Diu} {i : Nat} {rest : List Nat}
    (seated : unseated (faulted .stageTime d p l s) = []) (present : namedAbsent (faulted .stageTime d p l s) = false)
    (list : (p.members.filter (fun m => !m.passed)).map (·.index) = i :: rest)
    (fifo : l.fifo = joined [.fault (passFaultRec .stageTime s)] s) :
    let t := conclude s (enterDrain (faulted .stageTime d p l s))
    (t.faults.record = some (passFaultRec .stageTime s)
      ∧ t.line.fifo = joined [.fault (passFaultRec .stageTime s)] s ∧ t.job = s.job ∧ t.fill = s.fill)
    ∧ t.pass.abortCode = p.abortCode ∧ t.pass.phase = .drain ∧ t.pass.members = p.members
    ∧ t.pass.drainList = (p.members.filter (fun m => !m.passed)).map (·.index)
    ∧ (t.pass.class2, t.pass.class3) = (p.class2, p.class3) := by
  have effect : enterDrain (faulted .stageTime d p l s)
      = openedDrain i (standInDrain (i :: rest) (faulted .stageTime d p l s)) := enterDrain_eq seated present list
  have k := conclude_phase s (openedDrain i (standInDrain (i :: rest) (faulted .stageTime d p l s))) nofun nofun
  rw [effect, list]
  generalize conclude s (openedDrain i (standInDrain (i :: rest) (faulted .stageTime d p l s))) = t at k
  obtain ⟨job, fill, faults, line⟩ := drainEntered_frame i (i :: rest) (faulted .stageTime d p l s)
  refine ⟨⟨?_, ?_, ?_, ?_⟩, ?_⟩
  · exact congrArg Faults.record (k.faults.trans faults)
  · exact k.line.1.trans ((congrArg YardLine.fifo line).trans fifo)
  · exact k.job.trans job
  · exact k.fill.trans fill
  · rw [k.pass]; exact ⟨rfl, rfl, rfl, rfl, rfl⟩

/-- A spraying member stands on the drain list of a SPRAY that ends. -/
theorem unpassed_of_spraying {p : Pass} (sprays : sprayingMembers p ≠ []) :
    ∃ i l, (p.members.filter (fun m => !m.passed)).map (·.index) = i :: l := by
  obtain ⟨m, others, sprays'⟩ := List.exists_cons_of_ne_nil sprays
  have mem : m ∈ sprayingMembers p := by rw [sprays']; exact List.mem_cons_self
  obtain ⟨hm, unpassed⟩ := List.mem_filter.mp mem
  simp only [Bool.and_eq_true] at unpassed
  exact List.exists_cons_of_ne_nil (List.ne_nil_of_mem (List.mem_map_of_mem (List.mem_filter.mpr ⟨hm, unpassed.1⟩)))

end Sys2Proof.Machine
end

section
open Sys2Proof Sys2Proof.Machine

/-- Settles O31: each of the three faults is a `passFault` in a state that differs in the pass and the DIU alone. -/
theorem passFaultsByTolerance : Obligations.PassFaultsByTolerance := by
  unfold Obligations.PassFaultsByTolerance
  intro c k cls s running unaborted empty unskipped room hc f
  obtain ⟨ch, rfl, named, flush, rfl, rfl⟩ | ⟨rfl, spray, some', rfl, rfl⟩
    | ⟨rfl, spray, ⟨r, record, notRaised⟩, hot, rfl, rfl⟩ := hc
  · let p := s.pass.setLate { s.pass.late with sensor := false }
    have before : Before s p := ⟨rfl, rfl, rfl, rfl, rfl, rfl, rfl, rfl, unaborted⟩
    have taken : exec (.channelAbsent ch) s
        = .next (conclude s (sensorCheck (s.setDiu (updLoop ch Loop.lose s.diu)))) := by
      unfold exec execChannelAbsent
      exact event_running _ s running
    rw [channelAbsent_flush flush unskipped unaborted named] at taken
    generalize updLoop ch Loop.lose s.diu = d at taken
    refine ⟨_, taken, before.aborts d rfl empty room (.inl flush), fun isFiltered _ => ?_, fun _ h => by cases h⟩
    obtain ⟨l, counted, fifo, bus⟩ := before.counts (k := .sensorAbsent) (f := skipInspection) d rfl empty room isFiltered
    generalize (if (stageOf s.pass).kind = .finalRinse then 1 else 3) = cls at counted ⊢
    rw [counted]
    obtain ⟨⟨faults, fifo', job, fill⟩, pass, diu⟩ :=
      skipped_concluded (p := countedPass cls p) (d := d) flush fifo
    rw [pass, diu]
    exact ⟨faults, fifo', job, fill, unaborted, rfl, rfl, countedPass_classes cls p, fun _ => ⟨rfl, rfl, rfl, rfl, rfl⟩,
      fun h => by cases h⟩
  · obtain ⟨r, record⟩ := Option.isSome_iff_exists.mp some'
    let p : Pass := { s.pass with spray := some { r with timeMs := max r.timeMs ((stageOf s.pass).timeLimit * 1000) } }
    have before : Before s p := ⟨rfl, rfl, rfl, rfl, rfl, rfl, rfl, rfl, unaborted⟩
    have taken : exec .stageTime s = .next (conclude s (reachTimeLimit s)) := by
      unfold exec execStageTime
      exact event_running _ s running
    rw [reachTimeLimit_spray spray record unaborted] at taken
    refine ⟨_, taken, before.aborts s.diu rfl empty room (.inr (.inl spray)), fun _ h => absurd rfl h,
      fun isFiltered _ seated present sprays => ?_⟩
    obtain ⟨l, counted, fifo, bus⟩ := before.counts (k := .stageTime) (f := enterDrain) s.diu rfl empty room isFiltered
    obtain ⟨i, rest, list⟩ := unpassed_of_spraying sprays
    have drained := drained_concluded (s := s) (p := countedPass 3 p) (d := s.diu) (l := l) seated present list fifo
    rw [show passFault .stageTime 3 enterDrain (s.setPass p) = _ from counted]
    exact ⟨drained.1.1, drained.1.2.1, drained.1.2.2.1, drained.1.2.2.2, drained.2.1.trans unaborted, drained.2.2⟩
  · let p : Pass := { s.pass with spray := some { r with lowMs := max r.lowMs Config.tempLowLimit, tempRaised := true } }
    have before : Before s p := ⟨rfl, rfl, rfl, rfl, rfl, rfl, rfl, rfl, unaborted⟩
    have taken : exec .tempLow s = .next (conclude s (reachTempLow s)) := by
      unfold exec execTempLow
      exact event_running _ s running
    rw [reachTempLow_spray spray record notRaised hot unaborted] at taken
    refine ⟨_, taken, before.aborts s.diu rfl empty room (.inr (.inl spray)), fun isFiltered _ => ?_, fun _ h => by cases h⟩
    obtain ⟨l, counted, fifo, bus⟩ := before.counts (k := .tempLow) (f := id) s.diu rfl empty room isFiltered
    rw [show passFault .tempLow 2 id (s.setPass p) = _ from counted, id]
    have ended := conclude_same s (faulted .tempLow s.diu (countedPass 2 p) l s)
      (starveInputs_of_fields Iff.rfl rfl rfl rfl rfl rfl)
    obtain ⟨faults, fifo', job, fill⟩ := faulted_concluded (k := .tempLow) (s := s) ended rfl fifo rfl rfl
    rw [ended.pass, ended.diu]
    refine ⟨faults, fifo', job, fill, unaborted, rfl, rfl, rfl, nofun, fun _ => ⟨unskipped, rfl, rfl⟩⟩

end

section
/-! SUPPORT. The end of FLUSH and the entry of SPRAY (R64, R66, R113, R160). -/

namespace Sys2Proof.Machine

variable {s t u : State}

/-! ## Baselines (R113) -/

/-- A baseline formed changes the DIU alone. -/
theorem formBaseline_eq_setDiu (ch : Channel) (s : State) : ∃ d, formBaseline ch s = s.setDiu d := by
  unfold formBaseline
  split
  · cases ch with
    | conductivity => exact ⟨_, rfl⟩
    | turbidity => exact ⟨_, rfl⟩
    | temperature => exact ⟨s.diu, rfl⟩
  · exact ⟨s.diu, rfl⟩

/-- At the end of FLUSH both baselines are formed: the DIU changes alone before the SPRAY is entered. -/
theorem endFlush_inFlush (flush : s.pass.phase = .flush) : ∃ d, endFlush s = enterSpray (s.setDiu d) := by
  obtain ⟨d, conductivity⟩ := formBaseline_eq_setDiu .conductivity s
  obtain ⟨e, turbidity⟩ := formBaseline_eq_setDiu .turbidity (s.setDiu d)
  refine ⟨e, ?_⟩
  unfold endFlush
  rw [if_pos flush, conductivity, turbidity]
  rfl

/-! ## The entry of SPRAY (R66, R160) -/

/-- The state at the entry of SPRAY, before starvation and the lines are looked at: the empty record, the steady flag
of a FINAL_RINSE. -/
def begunSpray (s : State) : State :=
  (s.setPass { s.pass with flushLeft := 0, spray := some freshSpray }).setShare
    (if (stageOf s.pass).kind = .finalRinse then { s.share with steady := some Config.steadyTime, steadyFlag := true }
      else s.share)

theorem starveInputs_begunSpray (s : State) : starveInputs (begunSpray s) = starveInputs s := by
  unfold begunSpray
  split <;> rfl

theorem starvation_begunSpray (s : State) : starvation (begunSpray s) = starvation s := by
  unfold begunSpray
  split <;> rfl

theorem enterSpray_eq (s : State) :
    enterSpray s = if starvation s = true then runDownToStarved (begunSpray s) else runSpray (begunSpray s) := by
  have begun (p : Pass) : (if (stageOf s.pass).kind = .finalRinse then setSteady (s.setPass p) else s.setPass p)
      = (s.setPass p).setShare (if (stageOf s.pass).kind = .finalRinse then
          { s.share with steady := some Config.steadyTime, steadyFlag := true } else s.share) := by
    split <;> rfl
  unfold enterSpray
  dsimp only
  rw [begun, ← starvation_begunSpray s]
  rfl

theorem begunShare_steady (s : State) :
    ((stageOf s.pass).kind = .finalRinse →
      (begunSpray s).share.steadyFlag = true ∧ (begunSpray s).share.steady = some 120000)
    ∧ ((stageOf s.pass).kind ≠ .finalRinse →
      (begunSpray s).share.steadyFlag = s.share.steadyFlag ∧ (begunSpray s).share.steady = s.share.steady) :=
  ⟨fun final => by simp [begunSpray, final, Config.steadyTime], fun other => by simp [begunSpray, other]⟩

/-- A pass with a volume to reach has a spraying member, which goes on. -/
theorem goesOn_of_target {p : Pass} (target : 0 < volumeTarget p) : allRetiring p = false := by
  have some : sprayingMembers p ≠ [] := by
    intro none
    simp [volumeTarget, none] at target
  obtain ⟨m, hm⟩ := List.exists_mem_of_ne_nil _ some
  obtain ⟨hm, sprays⟩ := List.mem_filter.mp hm
  rw [allRetiring, List.all_eq_false]
  simp only [Bool.and_eq_true] at sprays
  exact ⟨m, hm, by simp [Option.isNone_iff_eq_none.mp sprays.2]⟩

/-- At the entry of SPRAY nothing has been sprayed. -/
theorem volumeReached_begunSpray (target : 0 < volumeTarget s.pass) : volumeReached (begunSpray s).pass = false := by
  have same : volumeTarget (begunSpray s).pass = volumeTarget s.pass := rfl
  unfold volumeReached
  rw [same]
  exact decide_eq_false (not_le.mpr target)

/-- Outside FLUSH the bypass is closed. -/
theorem drive_bypass_off (notFlush : s.pass.phase ≠ .flush) : (drive s).bypass = false := by
  obtain ⟨-, e⟩ | ⟨-, e⟩ | ⟨-, e⟩ := drive_cases s
  · rw [e]; rfl
  · rw [e]; rfl
  · rw [e]; exact decide_eq_false notFlush

/-! ## A run-down toward STARVED (R66, R86) -/

theorem runDownToStarved_running (runs : s.panel.level.pumpStopped = false) : runDownToStarved s
    = enterRunDown .starved true (s.setPass { s.pass with resumeAt := some .spray }) := if_neg (ne_true_of_eq_false runs)

theorem runDownToStarved_stopped (stopped : s.panel.level.pumpStopped = true) : runDownToStarved s
    = enterStarved (enterRunDown .starved true (s.setPass { s.pass with resumeAt := some .spray })) := if_pos stopped

/-- A run-down toward STARVED is a change of the pass, which goes on with its stage and its members. -/
theorem runDownToStarved_eq_setPass (s : State) : ∃ p, runDownToStarved s = s.setPass p
    ∧ p.spray = s.pass.spray ∧ p.members = s.pass.members ∧ p.stage = s.pass.stage ∧ p.recipeData = s.pass.recipeData
    ∧ (s.panel.level.pumpStopped = false → p.phase = .runDown ∧ p.dest = some .starved ∧ p.runDown = some 5000)
    ∧ (s.panel.level.pumpStopped = true →
        p.phase = .starved ∧ p.starveTimer = some ((recipeOf s.pass).starveLimit * 1000)) := by
  cases line : s.panel.level.pumpStopped with
  | true =>
    rw [runDownToStarved_stopped line]
    exact ⟨_, rfl, rfl, rfl, rfl, rfl, fun h => (by cases h), fun _ => ⟨rfl, rfl⟩⟩
  | false =>
    rw [runDownToStarved_running line]
    exact ⟨_, rfl, rfl, rfl, rfl, rfl, fun _ => ⟨rfl, rfl, rfl⟩, fun h => (by cases h)⟩

theorem exec_flushTimeExpiry (running : s.power = .running) :
    exec .flushTimeExpiry s = .next (conclude s (endFlush s)) := by
  unfold exec execFlushTimeExpiry
  exact event_running _ s running

end Sys2Proof.Machine
end

section
open Sys2Proof Sys2Proof.Machine

/-- Settles O33: nothing outside FLUSH; in it the SPRAY that runs without a finding, or the run-down toward STARVED. -/
theorem flushEndsInSpray : Obligations.FlushEndsInSpray := by
  unfold Obligations.FlushEndsInSpray
  intro s running
  have taken := exec_flushTimeExpiry running
  refine ⟨fun notFlush => ?_, fun flush fed seated dry unaborted target => ?_, fun flush starved => ?_⟩
  · rw [show endFlush s = s from if_neg notFlush] at taken
    have k := conclude_same s s rfl
    exact ⟨_, taken, k.pass, k.job, k.sameDiuFillFaults rfl rfl rfl, k.panel, k.sameShare rfl, k.sameModule (.refl s),
      k.sending rfl⟩
  · obtain ⟨d, formed'⟩ := endFlush_inFlush flush
    let v := begunSpray (s.setDiu d)
    have effect : endFlush s = spraying v := by
      rw [formed', enterSpray_eq, if_neg (by exact ne_true_of_eq_false fed)]
      exact runSpray_eq seated dry (volumeReached_begunSpray target) (goesOn_of_target target)
    have isFormed : formed v.pass := by simp [v, begunSpray, formed, flush]
    rw [effect] at taken
    have k := conclude_same s (spraying v) ((starveInputs_spraying isFormed).trans (starveInputs_begunSpray _))
    obtain ⟨final, other⟩ := begunShare_steady (s.setDiu d)
    have bypass : (conclude s (spraying v)).outs.bypass = false := by
      rw [conclude_outs]
      exact drive_bypass_off (by rw [k.pass]; exact nofun)
    refine ⟨_, taken, ?_⟩
    rw [k.pass]
    refine ⟨rfl, rfl, rfl, rfl, k.panel, bypass, fun h => ?_, fun h => ?_, k.job, k.fill, k.faults,
      k.sameModule (.refl s), k.sending rfl⟩
    · rw [k.share]
      exact final h
    · rw [k.share]
      exact other h
  · obtain ⟨d, formed'⟩ := endFlush_inFlush flush
    let v := begunSpray (s.setDiu d)
    obtain ⟨p, turned, spray, members, stage, recipe, runs, stopped⟩ := runDownToStarved_eq_setPass v
    have effect : endFlush s = v.setPass p := by
      rw [formed', enterSpray_eq, if_pos (by exact starved), ← turned]
    have notSpray : p.phase = .runDown ∨ p.phase = .starved := by
      cases line : s.panel.level.pumpStopped with
      | true => exact .inr (stopped line).1
      | false => exact .inl (runs line).1
    have isFormed : formed p := by obtain h | h := notSpray <;> simp [formed, h]
    have inputs : starveInputs (v.setPass p) = starveInputs v :=
      starveInputs_of_fields (iff_of_true isFormed (by simp [v, begunSpray, formed, flush])) stage recipe members rfl rfl
    rw [effect] at taken
    have k := conclude_same s (v.setPass p) (inputs.trans (starveInputs_begunSpray _))
    have phase : (conclude s (v.setPass p)).pass.phase = p.phase := by rw [k.pass]; rfl
    obtain ⟨pump, -⟩ := drive_spray_off (s := conclude s (v.setPass p))
      (by rw [phase]; obtain h | h := notSpray <;> simp [h]) (by rw [phase]; obtain h | h := notSpray <;> simp [h])
    have bypass := drive_bypass_off (s := conclude s (v.setPass p))
      (by rw [phase]; obtain h | h := notSpray <;> simp [h])
    refine ⟨_, taken, ?_⟩
    rw [conclude_outs, k.pass]
    exact ⟨spray, members, pump, bypass, runs, stopped, k.job, k.fill, k.faults, k.panel, k.sameModule (.refl s),
      k.sending rfl⟩

end

section
/-! SUPPORT. A sample in FLUSH and the flush records (R109, R113). -/

namespace Sys2Proof.Machine

variable {s t u : State}

/-! ## The channels that a stage names (R7) -/

theorem names_conductivity (n : Inspection) : names n .conductivity = decide (n = .cond ∨ n = .both) := by
  cases n <;> rfl

theorem names_turbidity (n : Inspection) : names n .turbidity = decide (n = .turb ∨ n = .both) := by cases n <;> rfl

/-- With the named channels present none that the stage names is absent. -/
theorem namedAbsent_of_named
    (c : (stageOf s.pass).inspection = .cond ∨ (stageOf s.pass).inspection = .both → s.diu.c.present = true)
    (t : (stageOf s.pass).inspection = .turb ∨ (stageOf s.pass).inspection = .both → s.diu.t.present = true) :
    namedAbsent s = false := by
  have present : ∀ (p : Prop) [Decidable p] (b : Bool), (p → b = true) → (decide p && !b) = false := by
    intro p _ b h
    by_cases hp : p <;> simp [hp, h]
  rw [namedAbsent, names_conductivity, names_turbidity, present _ _ c, present _ _ t, Bool.or_false]

/-! ## One record (R113) -/

/-- A reading taken into the flush record of a channel and what it makes of the baseline, the channel named or not. -/
theorem flushSample_cases (named : Bool) (f g : FlushRec) (a b : Option Nat) (reading : Nat)
    (hg : g = if named then addFlush f reading else f) (hb : b = if named then baselineOf g a else a) :
    (named = false ∨ 8 < f.count → g = f ∧ (named = false → b = a))
    ∧ (named = true → f.count < 7 → g = ⟨f.count + 1, f.sum + reading⟩ ∧ b = a)
    ∧ (named = true → f.count = 7 → g = ⟨8, f.sum + reading⟩ ∧ b = some ((f.sum + reading) / 8))
    ∧ (named = true → f.count = 8 → g = f) := by
  cases named with
  | false => simp_all
  | true =>
    simp only [if_true] at hg hb
    subst hg hb
    refine ⟨fun h => ?_, fun _ few => ?_, fun _ last => ?_, fun _ full => ?_⟩
    · have more : 8 < f.count := h.resolve_left nofun
      exact ⟨if_neg (by omega), nofun⟩
    · exact ⟨if_pos (by omega), baselineOf_addFlush _ _ few⟩
    · have added : addFlush f reading = ⟨8, f.sum + reading⟩ := by
        rw [addFlush, if_pos (by omega), last]
      rw [added]
      exact ⟨rfl, if_pos rfl⟩
    · exact if_neg (by omega)

theorem recordFlush_recording (h : recording s = true) : recordFlush s = s.setDiu { s.diu with
    flushC := if names (stageOf s.pass).inspection .conductivity then addFlush s.diu.flushC s.diu.c.reading
      else s.diu.flushC
    flushT := if names (stageOf s.pass).inspection .turbidity then addFlush s.diu.flushT s.diu.t.reading
      else s.diu.flushT
    baseC := if names (stageOf s.pass).inspection .conductivity then baselineOf
        (if names (stageOf s.pass).inspection .conductivity then addFlush s.diu.flushC s.diu.c.reading
          else s.diu.flushC) s.diu.baseC
      else s.diu.baseC
    baseT := if names (stageOf s.pass).inspection .turbidity then baselineOf
        (if names (stageOf s.pass).inspection .turbidity then addFlush s.diu.flushT s.diu.t.reading else s.diu.flushT)
        s.diu.baseT
      else s.diu.baseT } := if_pos h

/-! ## A sample (R109) -/

theorem exec_diuSample (iC iT iTemp : Nat) (running : s.power = .running) :
    exec (.diuSample iC iT iTemp) s = .next (conclude s (diuTick none (takeLoops iC iT iTemp s))) := by
  unfold exec execDiuSample
  exact event_running _ s running

/-- The DIU as a sample of its three loops leaves it. -/
def sampled (iC iT iTemp : Nat) (s : State) : State :=
  (takeLoops iC iT iTemp s).setDiu { s.diu with
    c := conditionLoop .conductivity iC s.diu.c
    t := conditionLoop .turbidity iT s.diu.t
    temp := conditionLoop .temperature iTemp s.diu.temp
    clock := 250 }

theorem sampleLoops_takeLoops (iC iT iTemp : Nat) (s : State) :
    sampleLoops (takeLoops iC iT iTemp s) = sampled iC iT iTemp s := rfl

/-- Outside DRAIN a sample does nothing to a window. -/
theorem windowTick_outsideDrain (forced : Option EndCause) (satC satT : Bool) (notDrain : s.pass.phase ≠ .drain) :
    windowTick forced satC satT s = s := by
  unfold windowTick
  split
  · rfl
  · exact if_neg notDrain

/-- Outside SPRAY and DRAIN, with no abort, the temperature of a sample leads to nothing. -/
theorem temperatureSample_outsideSpray (notSpray : s.pass.phase ≠ .spray) (notDrain : s.pass.phase ≠ .drain)
    (unaborted : s.pass.abortCode = none) : temperatureSample s = s := by
  unfold temperatureSample
  rw [if_neg (by simp [aborting, unaborted, notDrain])]
  split
  · rfl
  · exact if_neg (fun h => notSpray h.1)

theorem sensorCheck_of_present (present : namedAbsent s = false) : sensorCheck s = s :=
  if_neg (by simp [sensorFault, sensorFaultLate, present])

/-- A sample in FLUSH with the named channels present is taken into the flush records. -/
theorem diuTick_inFlush (iC iT iTemp : Nat) (flush : s.pass.phase = .flush) (unaborted : s.pass.abortCode = none)
    (present : namedAbsent (sampled iC iT iTemp s) = false) :
    diuTick none (takeLoops iC iT iTemp s) = recordFlush (sampled iC iT iTemp s) := by
  have phase : (sampled iC iT iTemp s).pass.phase = .flush := flush
  unfold diuTick
  rw [sampleLoops_takeLoops, temperatureSample_outsideSpray (s := sampled iC iT iTemp s) (by simp [phase])
    (by simp [phase]) unaborted, sensorCheck_of_present present]
  obtain ⟨d, recorded, -⟩ := recordFlush_frame (sampled iC iT iTemp s)
  rw [recorded]
  exact windowTick_outsideDrain _ _ _ (by simp [phase])

/-! ## BASELINE_FORMED (R113) -/

theorem exec_baselineFormed (ch : Channel) (running : s.power = .running) :
    exec (.baselineFormed ch) s = .next (conclude s (formBaseline ch s)) := by
  unfold exec execBaselineFormed
  exact event_running _ s running

/-- A record of 8 samples at most, completed, gives the baseline. -/
theorem baselineOf_completeFlush {f : FlushRec} (reading : Nat) (old : Option Nat) (h : f.count ≤ 8) :
    (completeFlush f reading).count = 8
    ∧ baselineOf (completeFlush f reading) old = some ((f.sum + (8 - f.count) * reading) / 8) := by
  by_cases few : f.count < 8
  · rw [completeFlush, if_pos few]
    exact ⟨rfl, if_pos rfl⟩
  · have full : f.count = 8 := by omega
    rw [completeFlush, if_neg few, baselineOf, if_pos full, full]
    simp

theorem formBaseline_unrecorded {ch : Channel} (h : s.pass.phase ≠ .flush ∨ s.pass.skipped = true
    ∨ names (stageOf s.pass).inspection ch = false) : formBaseline ch s = s := by
  refine if_neg ?_
  obtain h | h | h := h <;> simp [recording, h]

theorem formBaseline_recorded {ch : Channel} (flush : s.pass.phase = .flush) (unskipped : s.pass.skipped = false)
    (named : names (stageOf s.pass).inspection ch = true) : (recording s && names (stageOf s.pass).inspection ch) = true := by
  simp [recording, flush, unskipped, named]

end Sys2Proof.Machine
end

section
open Sys2Proof Sys2Proof.Machine

/-- Settles O32: a sample in FLUSH is taken into the records of the channels named; BASELINE_FORMED completes one. -/
theorem flushFormsTheBaseline : Obligations.FlushFormsTheBaseline := by
  unfold Obligations.FlushFormsTheBaseline
  intro s running
  refine ⟨fun iC iT iTemp unaborted flush unskipped => ?_, fun ch => ?_⟩
  · intro n loopC loopT taken presentC presentT
    have isTaken := exec_diuSample iC iT iTemp running
    have present : namedAbsent (sampled iC iT iTemp s) = false := namedAbsent_of_named presentC presentT
    have isRecording : recording (sampled iC iT iTemp s) = true := by simp [recording, sampled, takeLoops, flush, unskipped]
    rw [diuTick_inFlush iC iT iTemp flush unaborted present] at isTaken
    have recorded := recordFlush_recording isRecording
    have pass : (recordFlush (sampled iC iT iTemp s)).pass = s.pass := by rw [recorded]; rfl
    have k := conclude_phase s (recordFlush (sampled iC iT iTemp s)) (by rw [pass, flush]; exact nofun)
      (by rw [pass, flush]; exact nofun)
    refine ⟨_, isTaken, ?_⟩
    have diu := congrArg State.diu recorded
    rw [k.diu, diu]
    refine ⟨rfl, rfl, rfl, ?_, ?_, k.pass.trans pass, by rw [k.job, recorded]; rfl, by rw [k.fill, recorded]; rfl,
      by rw [k.faults, recorded]; rfl, k.sameShare (by rw [recorded]; rfl)⟩
    · rw [← names_conductivity]
      exact flushSample_cases _ _ _ _ _ _ rfl rfl
    · rw [← names_turbidity]
      exact flushSample_cases _ _ _ _ _ _ rfl rfl
  · have taken := exec_baselineFormed ch running
    obtain ⟨d, formed'⟩ := formBaseline_eq_setDiu ch s
    have isDiu : d = (formBaseline ch s).diu := by rw [formed']; rfl
    rw [formed'] at taken
    have k := conclude_same s (s.setDiu d) rfl
    refine ⟨_, taken, k.pass, k.job, k.fill, k.faults, k.panel, k.sameShare rfl, k.sameModule (.refl s), k.sending rfl,
      fun h => ?_, fun flush unskipped named => ?_⟩
    · rw [k.diu, setDiu_diu, isDiu, formBaseline_unrecorded h]
    · have records := formBaseline_recorded flush unskipped named
      rw [k.diu, setDiu_diu, isDiu]
      refine ⟨?_, ?_⟩
      · rintro rfl few
        obtain ⟨count, base⟩ := baselineOf_completeFlush s.diu.c.reading s.diu.baseC few
        rw [formBaseline.eq_def, if_pos records]
        exact ⟨base, count, rfl, rfl⟩
      · rintro rfl few
        obtain ⟨count, base⟩ := baselineOf_completeFlush s.diu.t.reading s.diu.baseT few
        rw [formBaseline.eq_def, if_pos records]
        exact ⟨base, count, rfl, rfl⟩

end

section
/-! SUPPORT. One sample of one loop (R109 to R112). -/

namespace Sys2Proof.Machine

/-- The gain for the next sample stays in 1, 2, 4, 8 and moves by one step where the count says so (R110). -/
theorem nextGain_cases {gain : Nat} (count : Nat) (h : gain = 1 ∨ gain = 2 ∨ gain = 4 ∨ gain = 8) :
    (nextGain gain count = 1 ∨ nextGain gain count = 2 ∨ nextGain gain count = 4 ∨ nextGain gain count = 8)
    ∧ (3686 ≤ count → 1 < gain → 2 * nextGain gain count = gain)
    ∧ (count < 1638 → gain < 8 → nextGain gain count = 2 * gain)
    ∧ ((1638 ≤ count ∨ gain = 8) → (count < 3686 ∨ gain = 1) → nextGain gain count = gain) := by
  unfold nextGain
  by_cases down : 3686 ≤ count ∧ 1 < gain
  · rw [if_pos down]
    omega
  · rw [if_neg down]
    by_cases up : count < 1638 ∧ gain < 8
    · rw [if_pos up]
      omega
    · rw [if_neg up]
      omega

/-- Presence by four consecutive samples on the far side of 3.6 mA (R112). -/
theorem stepPresence_cases (current : Nat) (x : Loop) :
    (decide (current < 3600000) = x.present → x.run < 3 → (stepPresence current x).present = x.present
      ∧ (stepPresence current x).run = x.run + 1)
    ∧ (decide (current < 3600000) = x.present → x.run = 3 → (stepPresence current x).present = !x.present
      ∧ (stepPresence current x).run = 0)
    ∧ (decide (current < 3600000) ≠ x.present → (stepPresence current x).present = x.present
      ∧ (stepPresence current x).run = 0) := by
  unfold stepPresence
  refine ⟨fun far few => ?_, fun far third => ?_, fun near => ?_⟩
  · rw [if_pos (by exact far), if_neg (by omega)]
    exact ⟨rfl, rfl⟩
  · rw [if_pos (by exact far), if_pos (by omega)]
    exact ⟨rfl, rfl⟩
  · rw [if_neg (by exact near)]
    exact ⟨rfl, rfl⟩

end Sys2Proof.Machine
end

section
/-! SUPPORT. A sample outside FLUSH and DRAIN and TEMP_LOW in SPRAY (R71, R109, R112). -/

namespace Sys2Proof.Machine

variable {s t u v w : State}

theorem SameModule.trans (h : SameModule s t) (k : SameModule t u) : SameModule s u := by
  obtain ⟨power, reader, free, pending⟩ := h
  obtain ⟨power', reader', free', pending'⟩ := k
  exact ⟨power'.trans power, reader'.trans reader, free'.trans free, pending'.trans pending⟩

/-- Outside FLUSH and DRAIN a sample ends with the temperature. -/
theorem sampleEnds (forced : Option EndCause) (satC satT : Bool) (notFlush : s.pass.phase ≠ .flush)
    (notDrain : s.pass.phase ≠ .drain) (unwatched : s.pass.late.sensor = false) :
    windowTick forced satC satT (recordFlush (sensorCheck s)) = s := by
  have quiet : sensorCheck s = s :=
    if_neg (by simp [sensorFault, sensorFaultLate, watchesSensors, notFlush, notDrain, unwatched])
  have unrecorded : recordFlush s = s := if_neg (by simp [recording, notFlush])
  rw [quiet, unrecorded]
  exact windowTick_outsideDrain _ _ _ notDrain

/-- A sample that is not below the target in the SPRAY of a hot stage leads to nothing. -/
theorem temperatureSample_of_warm (notDrain : s.pass.phase ≠ .drain) (unlate : s.pass.late = Late.none)
    (h : s.pass.abortCode ≠ none ∨ s.pass.spray = none ∨ s.pass.phase ≠ .spray ∨ (stageOf s.pass).hot = false
      ∨ belowTarget s = false) : temperatureSample s = s := by
  unfold temperatureSample
  by_cases abort : aborting s.pass = true
  · rw [if_pos (.inl abort), unlate]
    rfl
  · have unaborted : s.pass.abortCode = none := by simpa [aborting] using abort
    rw [if_neg (by simp [aborting, unaborted, notDrain])]
    cases record : s.pass.spray with
    | none => rfl
    | some r =>
      refine if_neg (fun ⟨spray, hot, below⟩ => ?_)
      obtain h | h | h | h | h := h
      · exact h unaborted
      · rw [record] at h; cases h
      · exact h spray
      · rw [hot] at h; cases h
      · rw [below] at h; cases h

theorem temperatureSample_of_cold {r : SprayRecord} (spray : s.pass.phase = .spray) (hot : (stageOf s.pass).hot = true)
    (record : s.pass.spray = some r) (unaborted : s.pass.abortCode = none) (below : belowTarget s = true) :
    temperatureSample s = lowTemperature { r with lowMs := r.lowMs + 250 } s := by
  unfold temperatureSample
  rw [if_neg (by simp [aborting, unaborted, spray]), record]
  exact if_pos ⟨spray, hot, below⟩

/-- What TEMP_LOW leaves, whatever the fault record holds (R71, R81). -/
theorem passFault_tempLow (unaborted : w.pass.abortCode = none) : ∃ (f : Faults) (l : YardLine),
    passFault .tempLow 2 id w
      = (if 2 ≤ w.pass.tolerance then ((w.setPass (countedPass 2 w.pass)).setFaults f).setLine l
        else abortPass .tempLow ((w.setFaults f).setLine l))
    ∧ (w.faults.record = none → FifoBounded w →
      f = { w.faults with record := some (passFaultRec .tempLow w) }
      ∧ l.fifo = joined [.fault (passFaultRec .tempLow w)] w) := by
  obtain ⟨same, -⟩ := raiseFault_rest .tempLow none (some w.pass.stage) w
  refine ⟨_, _, ?_, fun empty room => ⟨raiseFault_empty _ none _ empty, raiseFault_empty_fifo _ none _ empty room⟩⟩
  rw [passFault_of_unaborted unaborted, countPass_eq, same]
  by_cases level : 2 ≤ w.pass.tolerance
  · rw [if_pos (by simp [filtered, level]), if_pos level]
    rfl
  · rw [if_neg (by simp [filtered, level]), if_neg level]
    rfl

/-- An abort out of SPRAY with nothing late pending watches no sensor. -/
theorem abortPass_fromSpray (code : Code) (spray : w.pass.phase = .spray) (unaborted : w.pass.abortCode = none)
    (unlate : w.pass.late = Late.none) : (abortPass code w).pass.phase ≠ .flush ∧ (abortPass code w).pass.phase ≠ .drain
      ∧ (abortPass code w).pass.late.sensor = false := by
  have noneLeft : w.pass.late.left = [] := by rw [unlate]; rfl
  have samePhase : (abortedPass code (takeBack w)).phase = w.pass.phase := by rw [takeBack_of_none _ noneLeft]; rfl
  rw [abortPass_abortedState code (by simp [formed, spray]) (by simp [spray]) unaborted]
  have way : (abortedState code w).pass.phase = .runDown ∨ (abortedState code w).pass.phase = .drainDown :=
    onItsWay_phase samePhase
  obtain ⟨-, -, -, -, -, -, -, -, -, -, -, late⟩ :=
    onItsWay_fields w.pass.phase w.panel.level.pumpStopped (abortedPass code (takeBack w))
  have unwatched : (abortedPass code (takeBack w)).late.sensor = false := by
    rw [takeBack_of_none _ noneLeft]
    have watched : watchesSensors w = false := by simp [watchesSensors, spray]
    simp [abortedPass, lateOfAbort, lateOfPass, unlate, watched, Late.none]
  refine ⟨?_, ?_, (congrArg Late.sensor late).trans unwatched⟩
  · obtain h | h := way <;> rw [h] <;> exact nofun
  · obtain h | h := way <;> rw [h] <;> exact nofun

end Sys2Proof.Machine
end

section
/-! SUPPORT. A sample of the temperature, to the end of its event (R71). -/

namespace Sys2Proof.Machine

variable {s t u v w : State}

/-- The spray record after one more sample below the target, raised TEMP_LOW or not. -/
def coldPass (r : SprayRecord) (raised : Bool) (p : Pass) : Pass :=
  { p with spray := some { r with lowMs := r.lowMs + 250, tempRaised := raised } }

/-- A sample to the end of its event: what the temperature has led to, the loops and the clock being the DIU's own. -/
theorem exec_diuSample_ends {iC iT iTemp : Nat} (running : s.power = .running)
    (effect : temperatureSample (sampled iC iT iTemp s) = u) (notFlush : u.pass.phase ≠ .flush)
    (notDrain : u.pass.phase ≠ .drain) (unwatched : u.pass.late.sensor = false) :
    exec (.diuSample iC iT iTemp) s = .next (conclude s u) := by
  have taken := exec_diuSample iC iT iTemp running
  have ticked : diuTick none (takeLoops iC iT iTemp s) = u := by
    unfold diuTick
    rw [sampleLoops_takeLoops, effect]
    exact sampleEnds _ _ _ notFlush notDrain unwatched
  rwa [ticked] at taken

theorem lowTemperature_short {r : SprayRecord} (h : r.lowMs + 250 < 60000 ∨ r.tempRaised = true) :
    lowTemperature { r with lowMs := r.lowMs + 250 } v = v.setPass (coldPass r r.tempRaised v.pass) := by
  refine if_neg (fun ⟨reached, unraised⟩ => ?_)
  obtain h | h := h
  · exact absurd h (not_lt.mpr reached)
  · simp [h] at unraised

theorem lowTemperature_reached {r : SprayRecord} (reached : 60000 ≤ r.lowMs + 250) (unraised : r.tempRaised = false) :
    lowTemperature { r with lowMs := r.lowMs + 250 } v = passFault .tempLow 2 id (v.setPass (coldPass r true v.pass)) :=
  if_pos ⟨reached, unraised⟩

/-- What a cold sample leads to beyond the loops, in a SPRAY of a hot stage. -/
structure ColdSampled (iC iT iTemp : Nat) (r : SprayRecord) (s t : State) : Prop where
  loops : (t.diu.c, t.diu.t, t.diu.temp, t.diu.clock) = (conditionLoop .conductivity iC s.diu.c,
    conditionLoop .turbidity iT s.diu.t, conditionLoop .temperature iTemp s.diu.temp, 250)
  panel : t.panel = { s.panel with loopC := iC, loopT := iT, loopTemp := iTemp }
  job : t.job = s.job
  fill : t.fill = s.fill
  module : SameModule s t
  raised : s.faults.record = none → FifoBounded s →
    t.faults = { record := some (passFaultRec .tempLow s), overflow := s.faults.overflow }
    ∧ t.line.fifo = joined [.fault (passFaultRec .tempLow s)] s
  filtered : 2 ≤ s.pass.tolerance → t.pass = { s.pass with
    spray := some { r with lowMs := r.lowMs + 250, tempRaised := true }, class2 := s.pass.class2 + 1 }
  unfiltered : s.pass.tolerance < 2 → t.pass.abortCode = some .tempLow ∧ t.pass.class2 = s.pass.class2
    ∧ (s.panel.level.pumpStopped = false → t.pass.phase = .runDown ∧ t.pass.dest = some .drainDown)
    ∧ (s.panel.level.pumpStopped = true → t.pass.phase = .drainDown)

/-- The state after a sample that has raised a fault, `p` the pass that it leads to. -/
def sampleFaulted (iC iT iTemp : Nat) (p : Pass) (f : Faults) (l : YardLine) (s : State) : State :=
  (((sampled iC iT iTemp s).setPass p).setFaults f).setLine l

theorem sampleFaulted_frame (iC iT iTemp : Nat) (p : Pass) (f : Faults) (l : YardLine) (s : State) :
    let u := sampleFaulted iC iT iTemp p f l s
    (u.diu.c, u.diu.t, u.diu.temp, u.diu.clock) = (conditionLoop .conductivity iC s.diu.c,
      conditionLoop .turbidity iT s.diu.t, conditionLoop .temperature iTemp s.diu.temp, 250)
    ∧ u.panel = { s.panel with loopC := iC, loopT := iT, loopTemp := iTemp } ∧ u.job = s.job ∧ u.fill = s.fill
    ∧ SameModule s u ∧ u.pass = p ∧ u.faults = f ∧ u.line = l :=
  ⟨rfl, rfl, rfl, rfl, .refl s, rfl, rfl, rfl⟩

/-- TEMP_LOW raised by a sample (R71). -/
theorem exec_coldSample {iC iT iTemp : Nat} {r : SprayRecord} (running : s.power = .running)
    (spray : s.pass.phase = .spray) (unaborted : s.pass.abortCode = none) (unlate : s.pass.late = Late.none)
    (effect : temperatureSample (sampled iC iT iTemp s)
      = passFault .tempLow 2 id ((sampled iC iT iTemp s).setPass (coldPass r true s.pass))) :
    ∃ t, exec (.diuSample iC iT iTemp) s = .next t ∧ ColdSampled iC iT iTemp r s t := by
  let w := (sampled iC iT iTemp s).setPass (coldPass r true s.pass)
  obtain ⟨f, l, faulted', isRaised⟩ := passFault_tempLow (w := w) unaborted
  rw [faulted'] at effect
  have isRaised' (empty : s.faults.record = none) (room : FifoBounded s) := isRaised empty room
  by_cases level : 2 ≤ s.pass.tolerance
  · rw [if_pos (by exact level)] at effect
    let u := sampleFaulted iC iT iTemp (countedPass 2 (coldPass r true s.pass)) f l s
    obtain ⟨loops, panel, job, fill, module, pass, faults, line⟩ :=
      sampleFaulted_frame iC iT iTemp (countedPass 2 (coldPass r true s.pass)) f l s
    have k := conclude_same s u (starveInputs_of_fields Iff.rfl rfl rfl rfl rfl rfl)
    have taken := exec_diuSample_ends (u := u) running effect (fun h => nomatch spray.symm.trans h)
      (fun h => nomatch spray.symm.trans h) (congrArg Late.sensor unlate)
    refine ⟨_, taken, by rw [k.diu]; exact loops, k.panel.trans panel, k.job.trans job, k.fill.trans fill,
      k.sameModule module, fun empty room => ?_, fun _ => k.pass.trans pass, fun few => absurd level (not_le.mpr few)⟩
    exact ⟨(k.faults.trans faults).trans (isRaised' empty room).1, k.line.1.trans (isRaised' empty room).2⟩
  · rw [if_neg (by exact level)] at effect
    let u := sampleFaulted iC iT iTemp (coldPass r true s.pass) f l s
    obtain ⟨loops, panel, job, fill, module, -, faults, line⟩ :=
      sampleFaulted_frame iC iT iTemp (coldPass r true s.pass) f l s
    obtain ⟨notFlush, notDrain, unwatched⟩ := abortPass_fromSpray (w := u) .tempLow spray unaborted unlate
    have taken := exec_diuSample_ends (u := abortPass .tempLow u) running effect notFlush notDrain unwatched
    have a := abortPass_aborted (w := u) .tempLow s (by rw [formed, show u.pass.phase = _ from spray]; exact ⟨nofun, nofun⟩)
      (by rw [show u.pass.phase = _ from spray]; exact nofun) unaborted
    have noneLeft : u.pass.late.left = [] := congrArg Late.left unlate
    refine ⟨_, taken, ?_⟩
    obtain ⟨runs, stopped⟩ := a.running (.inr (.inl spray))
    obtain ⟨class2, -⟩ := Prod.mk.inj a.kept.2
    obtain ⟨-, -, sameJob⟩ := a.noneLeft noneLeft
    refine ⟨by rw [a.diu]; exact loops, a.panel.trans panel, sameJob.trans job, a.fill.trans fill, SameModule.trans module a.module,
      fun empty room => ?_, fun more => absurd more level, fun _ => ⟨a.abortCode, class2, fun h => ?_, stopped⟩⟩
    · exact ⟨(a.faults.trans faults).trans (isRaised' empty room).1, a.line.1.trans (isRaised' empty room).2⟩
    · obtain ⟨phase, dest, -⟩ := runs h
      exact ⟨phase, dest⟩

/-! ## Presence (R112) -/

/-- A change of presence that the pass engine does not watch for. -/
theorem exec_channelPresence {c : Instr} {ch : Channel} {lost : Bool} (running : s.power = .running)
    (notFlush : s.pass.phase ≠ .flush) (notDrain : s.pass.phase ≠ .drain) (unlate : s.pass.late = Late.none)
    (h : (c = .channelAbsent ch ∧ lost = true) ∨ (c = .channelPresent ch ∧ lost = false)) :
    exec c s = .next (conclude s (s.setDiu (updLoop ch (if lost then Loop.lose else Loop.regain) s.diu))) := by
  have quiet (d : Diu) : sensorCheck (s.setDiu d) = s.setDiu d :=
    if_neg (by simp [sensorFault, sensorFaultLate, watchesSensors, notFlush, notDrain, unlate, Late.none])
  obtain ⟨rfl, rfl⟩ | ⟨rfl, rfl⟩ := h
  · have taken : exec (.channelAbsent ch) s = .next (conclude s (sensorCheck (s.setDiu (updLoop ch Loop.lose s.diu)))) := by
      unfold exec execChannelAbsent
      exact event_running _ s running
    rwa [quiet] at taken
  · unfold exec execChannelPresent
    exact event_running _ s running

theorem presenceChange_eq (lost : Bool) (x : Loop) : (if lost then Loop.lose else Loop.regain) x
    = if x.present = lost then { x with present := !lost, run := 0, reading := if lost then 0 else x.reading } else x := by
  cases lost with
  | true => exact if_congr Iff.rfl rfl rfl
  | false =>
    show (if x.present = true then x else { x with present := true, run := 0 }) = _
    cases present : x.present with
    | true => rfl
    | false => rfl

end Sys2Proof.Machine
end

section
open Sys2Proof Sys2Proof.Machine

/-- Settles O30: the arithmetic of one loop; a sample that ends with the temperature; presence unwatched. -/
theorem samplesOutsideFlushAndDrain : Obligations.SamplesOutsideFlushAndDrain := by
  unfold Obligations.SamplesOutsideFlushAndDrain
  refine ⟨fun ch current x gain => ?_, fun s running notFlush notDrain unlate => ⟨fun iC iT iTemp => ?_,
    fun c ch lost hc => ?_⟩⟩
  · intro count y
    obtain ⟨run, change, near⟩ := stepPresence_cases current x
    refine ⟨fun temp => if_pos temp, fun other => ?_, run, change, near, fun absent => ?_, fun present => ?_⟩
    · have isNext : y.gain = nextGain x.gain count := if_neg other
      rw [isNext]
      exact nextGain_cases count gain
    · exact if_neg (ne_true_of_eq_false absent)
    · have reading : y.reading = readingOf ch x.gain count := if_pos present
      rw [reading]
      cases ch <;> rfl
  · intro temp
    let v := sampled iC iT iTemp s
    by_cases cold : s.pass.phase = .spray ∧ (stageOf s.pass).hot = true ∧ belowTarget v = true
        ∧ s.pass.abortCode = none ∧ s.pass.spray.isSome = true
    · obtain ⟨spray, hot, below, unaborted, some'⟩ := cold
      obtain ⟨r, record⟩ := Option.isSome_iff_exists.mp some'
      have isCold : temp.reading + 5 < (stageOf s.pass).temperature := of_decide_eq_true below
      have begun := temperatureSample_of_cold (s := v) spray hot record unaborted below
      have vacuous : ¬ (s.pass.phase ≠ .spray ∨ (stageOf s.pass).hot = false
          ∨ (stageOf s.pass).temperature ≤ temp.reading + 5) := by
        rintro (h | h | h)
        · exact h spray
        · rw [hot] at h; cases h
        · omega
      by_cases short : r.lowMs + 250 < 60000 ∨ r.tempRaised = true
      · let u := v.setPass (coldPass r r.tempRaised v.pass)
        have k := conclude_same s u (starveInputs_of_fields Iff.rfl rfl rfl rfl rfl rfl)
        refine ⟨_, exec_diuSample_ends running (begun.trans (lowTemperature_short short)) notFlush notDrain
          (congrArg Late.sensor unlate), by rw [k.diu]; rfl, k.panel, k.job, k.fill, k.sameModule (.refl s),
          fun h => absurd h vacuous, fun x _ _ hx _ _ => ?_⟩
        obtain rfl : r = x := Option.some.inj (record.symm.trans hx)
        refine ⟨fun _ => ⟨k.pass, by rw [k.diu]; rfl, k.faults, k.sameShare rfl, k.sending rfl⟩,
          fun reached unraised => ?_⟩
        obtain h | h := short
        · omega
        · rw [unraised] at h; cases h
      · have unraised : r.tempRaised = false := by
          cases h : r.tempRaised with
          | true => exact absurd (.inr h) short
          | false => rfl
        have reached : 60000 ≤ r.lowMs + 250 := not_lt.mp (fun h => short (.inl h))
        obtain ⟨t, taken, k⟩ := exec_coldSample (r := r) running spray unaborted unlate
          (begun.trans (lowTemperature_reached reached unraised))
        refine ⟨t, taken, k.loops, k.panel, k.job, k.fill, k.module, fun h => absurd h vacuous, fun x _ _ hx _ _ => ?_⟩
        obtain rfl : r = x := Option.some.inj (record.symm.trans hx)
        exact ⟨fun h => absurd h short,
          fun _ _ empty room => ⟨(k.raised empty room).1, (k.raised empty room).2, k.filtered, k.unfiltered⟩⟩
    · have quiet : temperatureSample v = v := by
        refine temperatureSample_of_warm notDrain unlate ?_
        by_contra all
        push Not at all
        obtain ⟨unaborted, some', spray, hot, below⟩ := all
        exact cold ⟨spray, eq_true_of_ne_false hot, eq_true_of_ne_false below, unaborted, Option.isSome_iff_ne_none.mpr some'⟩
      have k := conclude_same s v rfl
      refine ⟨_, exec_diuSample_ends running quiet notFlush notDrain (congrArg Late.sensor unlate), by rw [k.diu]; rfl,
        k.panel, k.job, k.fill, k.sameModule (.refl s), fun _ => ⟨by rw [k.diu]; rfl, k.pass, k.faults, k.sameShare rfl,
          k.sending rfl⟩, fun r spray hot record unaborted isCold => ?_⟩
      exact absurd ⟨spray, hot, decide_eq_true isCold, unaborted, by rw [record]; rfl⟩ cold
  · have k := conclude_same s (s.setDiu (updLoop ch (if lost then Loop.lose else Loop.regain) s.diu)) rfl
    refine ⟨_, exec_channelPresence running notFlush notDrain unlate hc, ?_, k.job, k.pass, k.fill, k.faults, k.panel,
      k.sameShare rfl, k.sameModule (.refl s), k.sending rfl⟩
    rw [k.diu, setDiu_diu]
    cases ch <;> simp only [updLoop, presenceChange_eq]

end

section
/-! SUPPORT. The reports of a batch's returns (R32, R54). -/

namespace Sys2Proof.Machine

variable {s t u v : State}

theorem Returned.jobNumber (h : Returned s t) : jobNumber t = jobNumber s := by rw [h.rest]; rfl

/-- One return leaves the FIFO and the job's state, or closes the job COMPLETE (R32). -/
theorem requestReturnChecked_closes (b : BatchMember) (s : State) (room : FifoBounded s) :
    ((requestReturnChecked b s).line.fifo = s.line.fifo ∧ (requestReturnChecked b s).job.state = s.job.state
      ∧ ¬ (s.job.state = .opened ∧ (returnedTable b s.job.table).all terminal = true))
    ∨ ((requestReturnChecked b s).line.fifo = joined [.jobReport (jobNumber s) .complete] s
      ∧ (requestReturnChecked b s).job.state = .closed
      ∧ s.job.state = .opened ∧ (returnedTable b s.job.table).all terminal = true) := by
  let v := s.setJob { s.job with table := returnedTable b s.job.table }
  have effect : requestReturnChecked b s = closeCheck v := rfl
  rw [effect]
  by_cases complete : JobComplete v
  · obtain ⟨l, hl, fifo⟩ := queueEvent_joins (.jobReport (jobNumber v) .complete) v room
    rw [closeCheck_of_complete complete hl]
    exact .inr ⟨fifo, rfl, complete.1, complete.2⟩
  · rw [closeCheck_of_incomplete complete]
    exact .inl ⟨rfl, rfl, complete⟩

/-- The returns of a batch queue nothing, or the COMPLETE report of an open job. -/
theorem returns_fifo (l : List BatchMember) (s : State) (room : FifoBounded s) : ∃ rest,
    (l.foldl (fun s b => requestReturnChecked b s) s).line.fifo = joined rest s
    ∧ (rest = [] ∨ (s.job.state = .opened ∧ rest = [.jobReport (jobNumber s) .complete])) := by
  induction l generalizing s with
  | nil => exact ⟨[], (joined_nil room).symm, .inl rfl⟩
  | cons b l ih =>
    have returned := requestReturnChecked_returned b s
    obtain ⟨fifo, state, -⟩ | ⟨fifo, closed, opened, -⟩ := requestReturnChecked_closes b s room
    · obtain ⟨rest, all, which⟩ := ih (requestReturnChecked b s) (by rwa [FifoBounded, fifo])
      rw [returned.jobNumber, state] at which
      exact ⟨rest, all.trans (by rw [joined, joined, fifo]), which⟩
    · obtain ⟨rest, all, which⟩ := ih (requestReturnChecked b s) (by rw [FifoBounded, fifo]; exact joined_bounded _ _)
      have none : rest = [] := which.resolve_right (fun h => by simp [closed] at h)
      rw [none, joined_append fifo] at all
      exact ⟨_, all, .inr ⟨opened, rfl⟩⟩

/-- A record with a scheduled compartment of an index. -/
def ScheduledIn (i : Nat) (table : List Compartment) : Prop := ∃ x ∈ table, x.index = i ∧ x.state = .scheduled

theorem ScheduledIn.returned {i : Nat} {table : List Compartment} (h : ScheduledIn i table) {b : BatchMember}
    (other : i ≠ b.index) : ScheduledIn i (returnedTable b table) := by
  obtain ⟨x, mem, rfl, scheduled⟩ := h
  exact ⟨x, List.mem_map.mpr ⟨x, mem, if_neg other⟩, rfl, scheduled⟩

theorem ScheduledIn.incomplete {i : Nat} {table : List Compartment} (h : ScheduledIn i table) :
    table.all terminal = false := by
  obtain ⟨x, mem, -, scheduled⟩ := h
  exact List.all_eq_false.mpr ⟨x, mem, by simp [terminal, scheduled]⟩

/-- The last return of a batch whose compartments are all scheduled closes the job, where it does. -/
theorem returns_fifo_of_scheduled (l : List BatchMember) (s : State) (room : FifoBounded s)
    (opened : s.job.state = .opened) (distinct : (l.map (·.index)).Nodup)
    (scheduled : ∀ b ∈ l, ScheduledIn b.index s.job.table) :
    (l.foldl (fun s b => requestReturnChecked b s) s).line.fifo = joined (
      if l ≠ [] ∧ (l.foldl (fun table b => returnedTable b table) s.job.table).all terminal = true then
        [.jobReport (jobNumber s) .complete] else []) s := by
  induction l generalizing s with
  | nil => exact (joined_nil room).symm
  | cons b l ih =>
    have returned := requestReturnChecked_returned b s
    have table := requestReturnChecked_table b s
    obtain ⟨notAgain, distinct'⟩ := List.nodup_cons.mp distinct
    cases l with
    | nil =>
      obtain ⟨fifo, -, incomplete⟩ | ⟨fifo, -, -, complete⟩ := requestReturnChecked_closes b s room
      · rw [if_neg (fun h => incomplete ⟨opened, h.2⟩), joined_nil room]
        exact fifo
      · rw [if_pos ⟨List.cons_ne_nil _ _, complete⟩]
        exact fifo
    | cons d l =>
      have later (x : BatchMember) (hx : x ∈ d :: l) : ScheduledIn x.index (returnedTable b s.job.table) :=
        (scheduled x (List.mem_cons_of_mem _ hx)).returned (fun same => notAgain (List.mem_map.mpr ⟨x, hx, same⟩))
      have incomplete := (later d List.mem_cons_self).incomplete
      obtain ⟨fifo, state, -⟩ | ⟨-, -, -, complete⟩ := requestReturnChecked_closes b s room
      · have all := ih (requestReturnChecked b s) (by rwa [FifoBounded, fifo]) (state.trans opened) distinct'
          (by rw [table]; exact later)
        rw [returned.jobNumber, table] at all
        refine all.trans ?_
        rw [joined, joined, fifo]
        simp only [ne_eq, reduceCtorEq, not_false_eq_true, true_and, List.foldl_cons]
      · rw [incomplete] at complete
        cases complete

/-- The reports of a batch cancelled: none, or COMPLETE, which follows where every compartment is then terminal. -/
theorem cancelBatch_reports (room : FifoBounded s) (opened : s.job.state = .opened) : ∃ rest,
    (cancelBatch s).line.fifo = joined rest s ∧ (rest = [] ∨ rest = [.jobReport (jobNumber s) .complete])
    ∧ ((s.pass.batch.map (·.index)).Nodup → (∀ b ∈ s.pass.batch, ScheduledIn b.index s.job.table) →
      rest = if s.pass.batch ≠ [] ∧ (s.pass.batch.foldl (fun table b => returnedTable b table) s.job.table).all terminal
        = true then [.jobReport (jobNumber s) .complete] else []) := by
  let begun := s.setPass { s.pass with window := none }
  by_cases all : (s.pass.batch.map (·.index)).Nodup ∧ ∀ b ∈ s.pass.batch, ScheduledIn b.index s.job.table
  · refine ⟨_, returns_fifo_of_scheduled s.pass.batch begun room opened all.1 all.2, ?_, fun _ _ => rfl⟩
    split
    · exact .inr rfl
    · exact .inl rfl
  · obtain ⟨rest, returns, which⟩ := returns_fifo s.pass.batch begun room
    exact ⟨rest, returns, which.imp_right And.right, fun distinct scheduled => absurd ⟨distinct, scheduled⟩ all⟩

end Sys2Proof.Machine
end

section
/-! SUPPORT. A release by the job state (R36 to R38). -/

namespace Sys2Proof.Machine

variable {s t u v : State}

theorem exec_jobRelease (f : Frame) (running : s.power = .running) : exec (.jobRelease f) s
    = .next (conclude s (if takenFromOffice 2 0 f s then takeRelease s else s)) := by
  unfold exec execJobRelease
  exact event_running _ s running

theorem exec_reportRecall (f : Frame) (running : s.power = .running) : exec (.reportRecall f) s
    = .next (conclude s (if takenFromOffice 5 0 f s then answerRecall s else s)) := by
  unfold exec execReportRecall
  exact event_running _ s running

theorem takeRelease_opened (opened : s.job.state = .opened) : takeRelease s = releaseOpen s := by
  simp [takeRelease, opened]

theorem stopFill_idle {cause : FillCause} (idle : s.fill.ctx = none) : stopFill cause s = s := by simp [stopFill, idle]

/-- Without a pass there is nothing to abort. -/
theorem releasePass_inNone (inNone : s.pass.phase = .none) : releasePass s = s := by
  have notAborted : abortPass .jobReleased s = s := by
    unfold abortPass
    split
    · rfl
    · rw [inNone]
  rw [releasePass, if_neg (by simp [inNone]), notAborted]

theorem releasePass_gathering (gathering : s.pass.phase = .gathering) : releasePass s = cancelBatch s := if_pos gathering

theorem releaseOpen_finished (inNone : (releasePass s).pass.phase = .none) (idle : (releasePass s).fill.ctx = none) :
    releaseOpen s = finishRelease (releasePass s) := by
  unfold releaseOpen
  rw [stopFill_idle idle]
  exact if_pos ⟨inNone, idle⟩

theorem releaseOpen_waits {f : FillUnit} (stopped : stopFill .released (releasePass s) = (releasePass s).setFill f)
    (waits : ¬ ((releasePass s).pass.phase = .none ∧ f.ctx = none)) :
    releaseOpen s = ((releasePass s).setFill f).setJob { (releasePass s).job with state := .releasing } := by
  unfold releaseOpen
  rw [stopped]
  exact if_neg waits

/-- A stop changes the fill unit alone. -/
theorem stopFill_eq_setFill (cause : FillCause) (s : State) : ∃ f, stopFill cause s = s.setFill f := by
  cases ctx : s.fill.ctx with
  | none => exact ⟨s.fill, stopFill_idle ctx⟩
  | some x => exact ⟨_, stopFill_eq cause ctx⟩

/-- The release finished: the report queued, the job unit in NO_JOB. -/
theorem finishRelease_answered (room : FifoBounded s) : Answered s (finishRelease s)
    { s.job with state := .noJob, clock := 0, clockSub := 0 } (joined [.jobReport (jobNumber s) .released] s) := by
  have queued := queueEvent_answered (.jobReport (jobNumber s) .released) room
  have job : (queueEvent (.jobReport (jobNumber s) .released) s).job = s.job := by rw [queued.rest]
  have finished := queued.setJob { s.job with state := .noJob, clock := 0, clockSub := 0 }
  unfold finishRelease
  dsimp only
  rw [job]
  exact finished

/-- REPORT_RECALL's answer by the job state (R39). -/
def recallAnswer (s : State) : Notice :=
  match s.job.state with
  | .opened => .jobReport (jobNumber s) .snapshot
  | .releasing => .jobReport (jobNumber s) .snapshot
  | .closed => .jobReport (jobNumber s) .complete
  | .noJob => .jobResponse { tag := blankTag, outcome := .noJob, number := 0, detail := [] }
  | .assembling => .jobResponse { tag := blankTag, outcome := .noJob, number := 0, detail := [] }

theorem answerRecall_eq (s : State) : answerRecall s = queueEvent (recallAnswer s) s := by
  unfold answerRecall recallAnswer
  cases s.job.state <;> rfl

/-- What an abort leaves before the end of its event. -/
theorem abortPass_before_end (code : Code) (isFormed : formed s.pass) (notDrainDown : s.pass.phase ≠ .drainDown)
    (unaborted : s.pass.abortCode = none) :
    let t := abortPass code s
    (t.pass.phase = .runDown ∨ t.pass.phase = .drainDown) ∧ t.pass.abortCode = some code
    ∧ t.pass.stage = s.pass.stage
    ∧ (s.pass.late.left = [] → t.job = s.job
      ∧ t.pass.members = s.pass.members.map (fun m => { m with passed := false, signature := none }))
    ∧ t.faults = s.faults ∧ SameModule s t ∧ t.line.fifo = s.line.fifo ∧ t.line.bus = s.line.bus := by
  have a := abortPass_aborted (w := s) code s isFormed notDrainDown unaborted
  obtain ⟨module, -, -, -, faults, -, fifo, bus, -⟩ := abortedState_frame code s
  have samePhase : (abortedPass code (takeBack s)).phase = s.pass.phase := by
    obtain ⟨members, departed, late, cleared⟩ := abortedPass_frame code s
    rw [cleared]
  have phase := onItsWay_phase (stopped := s.panel.level.pumpStopped) samePhase
  have isState := abortPass_abortedState code isFormed notDrainDown unaborted
  have k : Concluded (abortedState code s) (conclude s (abortedState code s)) :=
    conclude_phase s _ (by obtain h | h := phase <;> exact fun g => nomatch h.symm.trans g)
      (by obtain h | h := phase <;> exact fun g => nomatch h.symm.trans g)
  rw [isState] at a ⊢
  have pass := k.pass
  have job := k.job
  refine ⟨phase, ?_, ?_, fun left => ?_, faults, module, fifo, bus⟩
  · rw [← pass]; exact a.abortCode
  · rw [← pass]; exact a.kept.1
  · obtain ⟨members, -, sameJob⟩ := a.noneLeft left
    rw [← pass, ← job]
    exact ⟨sameJob, members⟩

end Sys2Proof.Machine
end

section
open Sys2Proof Sys2Proof.Machine

/-- Settles O48: by the job state, and in OPEN by the phase of the engine and the fill under way. -/
theorem releaseAndRecallByJobState : Obligations.ReleaseAndRecallByJobState := by
  unfold Obligations.ReleaseAndRecallByJobState
  intro f s running room
  refine ⟨⟨_, exec_jobRelease f running, fun idle => ?_, fun taken ends => ?_, fun taken opened none idle => ?_,
    fun x taken opened none hctx => ?_, fun taken opened gathering idle => ?_,
    fun taken opened isFormed notDrainDown unaborted => ?_⟩, ⟨_, exec_reportRecall f running, ?_⟩⟩
  · have same : (if takenFromOffice 2 0 f s then takeRelease s else s) = s := by
      split
      next taken =>
        obtain h | h | h := idle
        · exact absurd taken h
        · simp [takeRelease, h]
        · simp [takeRelease, h]
      · rfl
    rw [same]
    have k := conclude_same s s rfl
    exact ⟨k.job, k.pass, k.sameDiuFillFaults rfl rfl rfl, k.sameShare rfl, k.sameModule (.refl s), k.sending rfl⟩
  · have effect : takeRelease s = toNoJob s := by obtain h | h := ends <;> simp [takeRelease, h]
    rw [if_pos taken, effect]
    have k := conclude_same s (toNoJob s) rfl
    exact ⟨k.job, k.pass, k.sameDiuFillFaults rfl rfl rfl, k.sameShare rfl, k.sameModule (.refl s), k.sending rfl⟩
  · have same := releasePass_inNone none
    have effect : releaseOpen s = finishRelease s := by
      rw [releaseOpen_finished (by rw [same]; exact none) (by rw [same]; exact idle), same]
    rw [if_pos taken, takeRelease_opened opened, effect]
    obtain ⟨job, fifo, -, pass, blocks, -, share, module⟩ := (finishRelease_answered room).concluded
    exact ⟨job, fifo, pass, blocks, share, module⟩
  · have same := releasePass_inNone none
    have stop : stopFill .released (releasePass s) = (releasePass s).setFill { s.fill with ctx := some (stopped .released x) } := by
      rw [same, stopFill_eq _ hctx]
      rfl
    have effect := releaseOpen_waits stop (fun h => nomatch h.2)
    rw [same] at effect
    rw [if_pos taken, takeRelease_opened opened, effect]
    have k := conclude_same s ((s.setFill { s.fill with ctx := some (stopped .released x) }).setJob
      { s.job with state := .releasing }) rfl
    refine ⟨k.job, ?_, ?_, k.pass, k.diu, k.faults, k.sameShare rfl, k.sameModule (.refl s), k.sending rfl⟩
    · rw [k.fill]; rfl
    · rw [k.fill]; rfl
  · have cancels := releasePass_gathering gathering
    have r : Returned s (cancelBatch s) := cancelBatch_returned s
    obtain ⟨diu, fill, faults⟩ := r.diuFillFaults
    obtain ⟨rest, returns, which, exactly⟩ := cancelBatch_reports room opened
    have answered := finishRelease_answered (s := cancelBatch s) (by rw [FifoBounded, returns]; exact joined_bounded _ _)
    have effect : releaseOpen s = finishRelease (cancelBatch s) := by
      rw [releaseOpen_finished (by rw [cancels]; rfl) (by rw [cancels]; exact (congrArg FillUnit.ctx fill).trans idle),
        cancels]
    rw [if_pos taken, takeRelease_opened opened, effect]
    have k : Concluded (finishRelease (cancelBatch s)) (conclude s (finishRelease (cancelBatch s))) :=
      conclude_phase s _ (by rw [answered.rest]; exact nofun) (by rw [answered.rest]; exact nofun)
    refine ⟨by rw [k.pass, answered.rest]; rfl, ?_, ⟨rest, ?_, which, exactly⟩, k.sameDiuFillFaults ?_ ?_ ?_,
      k.sameModule ?_⟩
    · have job := congrArg State.job r.rest
      rw [k.job, answered.rest]
      dsimp only
      rw [job, cancelBatch_table]
      rfl
    · rw [k.line.1, answered.fifo, joined_append returns, r.jobNumber]
    · rw [answered.rest]; exact diu
    · rw [answered.rest]; exact fill
    · rw [answered.rest]; exact faults
    · rw [answered.rest]; exact r.sameModule
  · have aborts : releasePass s = abortPass .jobReleased s := if_neg isFormed.2
    obtain ⟨phase, abortCode, stage, noneLeft, faults, module, fifo, bus⟩ :=
      abortPass_before_end .jobReleased isFormed notDrainDown unaborted
    obtain ⟨g, stop⟩ := stopFill_eq_setFill .released (releasePass s)
    have effect := releaseOpen_waits stop (fun h => by
      rw [aborts] at h
      obtain phase | phase := phase
      · exact nomatch phase.symm.trans h.1
      · exact nomatch phase.symm.trans h.1)
    rw [aborts] at effect
    rw [if_pos taken, takeRelease_opened opened, effect]
    generalize abortPass .jobReleased s = v at phase abortCode stage noneLeft faults module fifo bus
    have k : Concluded ((v.setFill g).setJob { v.job with state := .releasing })
        (conclude s ((v.setFill g).setJob { v.job with state := .releasing })) :=
      conclude_phase s _ (by obtain h | h := phase <;> exact fun g => nomatch h.symm.trans g)
        (by obtain h | h := phase <;> exact fun g => nomatch h.symm.trans g)
    refine ⟨by rw [k.job]; rfl, by rw [k.pass]; exact abortCode, by rw [k.pass]; exact phase, by rw [k.pass]; exact stage,
      fun left => ?_, k.faults.trans faults, k.sameModule module, fifo ▸ k.sending bus⟩
    obtain ⟨job, members⟩ := noneLeft left
    rw [k.job, k.pass, setJob_job, job]
    exact ⟨rfl, members⟩
  · by_cases taken : takenFromOffice 5 0 f s
    · rw [if_pos taken, if_neg (not_not.mpr taken), answerRecall_eq]
      obtain ⟨job, fifo, -, pass, blocks, panel, share, module⟩ :=
        (queueEvent_answered (recallAnswer s) room).concluded
      exact ⟨job, pass, blocks, panel, share, module, fifo⟩
    · rw [if_neg taken, if_pos taken]
      have k := conclude_same s s rfl
      exact ⟨k.job, k.pass, k.sameDiuFillFaults rfl rfl rfl, k.panel, k.sameShare rfl, k.sameModule (.refl s), k.line.1⟩

end

section
/-! SUPPORT. The end of a pass (R77, R98, R103, R107, R38), said once. -/

namespace Sys2Proof.Machine

variable {s t u v : State} {j : JobUnit} {l ms : List Notice}

/-- The state with its pass ended: the engine in NONE, the DIU's part cleared. -/
def passEnd (s : State) : State := endPassDiu (s.setPass Pass.idle)

theorem queueEvents_answered (ns : List Notice) (h : Answered s u j (joined ms s)) :
    Answered s (queueEvents ns u) j (joined (ms ++ ns) s) := by
  induction ns generalizing u ms with
  | nil => rwa [List.append_nil]
  | cons n ns ih =>
    have next := ih (h.queueEvent n)
    rwa [List.append_assoc] at next

/-- The pass ends behind what has been queued. -/
theorem Answered.passEnd (h : Answered s u j l) : Answered (passEnd s) (passEnd u) j l := by
  refine ⟨?_, h.fifo, h.bus⟩
  have rest := h.rest
  generalize u.line = y at rest
  subst rest
  rfl

/-- The close check behind what has been queued (R32). -/
theorem closeCheck_answered (h : Answered s u j (joined ms s)) (p : Pass) : ∃ state rest,
    Answered (s.setPass p) ((closeCheck u).setPass p) { j with state := state } (joined (ms ++ rest) s)
    ∧ (rest = [] ∧ state = j.state ∨ rest = [.jobReport (jobNumber u) .complete] ∧ state = .closed ∧ j.state = .opened
      ∧ j.table.all terminal = true) := by
  have job : u.job = j := by rw [h.rest]
  have line : u = { s with job := j, line := u.line } := h.rest
  by_cases complete : JobComplete u
  · obtain ⟨y, hy, -⟩ := queueEvent_joins (.jobReport (jobNumber u) .complete) u h.fifo_bounded
    have queued := h.queueEvent (.jobReport (jobNumber u) .complete)
    rw [hy] at queued
    rw [closeCheck_of_complete complete hy, job]
    refine ⟨.closed, _, ⟨?_, queued.fifo, queued.bus⟩, .inr ⟨rfl, rfl, job ▸ complete.1, job ▸ complete.2⟩⟩
    generalize u.line = x at line
    subst line
    rfl
  · refine ⟨j.state, [], ?_, .inl ⟨rfl, rfl⟩⟩
    rw [closeCheck_of_incomplete complete, List.append_nil]
    refine ⟨?_, h.fifo, h.bus⟩
    generalize u.line = x at line
    subst line
    rfl

/-- A waiting release finishes, or nothing happens (R38). -/
theorem releaseCheck_answered (h : Answered s u j (joined ms s)) : ∃ state clock clockSub rest,
    Answered s (releaseCheck u) { j with state := state, clock := clock, clockSub := clockSub } (joined (ms ++ rest) s)
    ∧ (rest = [] ∧ state = j.state ∧ clock = j.clock ∧ clockSub = j.clockSub
      ∨ rest = [.jobReport (jobNumber u) .released] ∧ j.state = .releasing) := by
  have job : u.job = j := by rw [h.rest]
  unfold releaseCheck
  split
  next released =>
    have queued := (h.queueEvent (.jobReport (jobNumber u) .released)).setJob
      { j with state := .noJob, clock := 0, clockSub := 0 }
    refine ⟨.noJob, 0, 0, _, ?_, .inr ⟨rfl, job ▸ released.1⟩⟩
    have same : (queueEvent (.jobReport (jobNumber u) .released) u).job = j := by
      rw [(h.queueEvent (.jobReport (jobNumber u) .released)).rest]
    unfold finishRelease
    dsimp only
    rwa [same]
  · exact ⟨j.state, j.clock, j.clockSub, [], by rwa [List.append_nil], .inl ⟨rfl, rfl, rfl, rfl⟩⟩

/-- `t` is `s` with its pass ended: the result and the certificates joined the FIFO, then at most the report of a job
that ends with the pass. -/
structure PassEnded (o : PassOutcome) (certs : List Notice) (s t : State) : Prop where
  rest : t = { passEnd s with job := t.job, line := t.line }
  job : t.job = { s.job with state := t.job.state, clock := t.job.clock, clockSub := t.job.clockSub }
  bus : t.line.bus = s.line.bus
  fifo : ∃ rest, t.line.fifo = joined (.passResult (passResultOf o s) :: certs ++ rest) s
    ∧ (rest = [] ∨ rest = [.jobReport (jobNumber s) .complete] ∨ rest = [.jobReport (jobNumber s) .released])
    ∧ (s.job.state = .opened → s.job.table.all terminal = false → rest = [] ∧ t.job = s.job)

theorem endPass_ended (o : PassOutcome) (certs : List Notice) (room : FifoBounded s) :
    PassEnded o certs s (endPass o certs s) := by
  let n : Notice := .passResult (passResultOf o s)
  have queued : Answered s (queueEvents certs (queueEvent n s)) s.job (joined (n :: certs) s) :=
    queueEvents_answered certs (ms := [n]) (queueEvent_answered n room)
  have number : jobNumber (queueEvents certs (queueEvent n s)) = jobNumber s := by rw [queued.rest]; rfl
  obtain ⟨state, closes, closed, how⟩ := closeCheck_answered queued Pass.idle
  have closed' : Answered (s.setPass Pass.idle) _ _ (joined (n :: certs ++ closes) (s.setPass Pass.idle)) := closed
  have atEnd : Answered (passEnd s) (endPassDiu ((closeCheck (queueEvents certs (queueEvent n s))).setPass Pass.idle))
      { s.job with state := state } (joined (n :: certs ++ closes) (passEnd s)) := closed'.passEnd
  obtain ⟨state', clock, clockSub, releases, released, how'⟩ := releaseCheck_answered atEnd
  have number' : jobNumber (endPassDiu ((closeCheck (queueEvents certs (queueEvent n s))).setPass Pass.idle))
      = jobNumber s := by rw [atEnd.rest]; rfl
  have isEnd : endPass o certs s = releaseCheck
      (endPassDiu ((closeCheck (queueEvents certs (queueEvent n s))).setPass Pass.idle)) := rfl
  rw [isEnd]
  rw [number] at how
  rw [number'] at how'
  refine ⟨by rw [released.rest], by rw [released.rest], released.bus, closes ++ releases, ?_, ?_, fun opened incomplete => ?_⟩
  · rw [released.fifo, List.append_assoc]
    rfl
  · obtain ⟨rfl, rfl⟩ | ⟨rfl, rfl, -⟩ := how <;> obtain ⟨rfl, -⟩ | ⟨rfl, releasing⟩ := how'
    · exact .inl rfl
    · exact .inr (.inr rfl)
    · exact .inr (.inl rfl)
    · cases releasing
  · obtain ⟨rfl, rfl⟩ | ⟨-, -, -, complete⟩ := how
    · obtain ⟨rfl, rfl, rfl, rfl⟩ | ⟨-, releasing⟩ := how'
      · exact ⟨rfl, by rw [released.rest]⟩
      · exact nomatch opened.symm.trans releasing
    · rw [incomplete] at complete
      cases complete

/-- A pass ended, to the end of its event. -/
theorem PassEnded.concluded {o : PassOutcome} {certs : List Notice} (h : PassEnded o certs s u) (s0 : State) :
    let t := conclude s0 u
    t.pass = Pass.idle ∧ t.diu = { s.diu.clearFlush with window := none, histories := [] } ∧ t.job.table = s.job.table
    ∧ (∃ rest, t.line.fifo = joined (.passResult (passResultOf o s) :: certs ++ rest) s
      ∧ (rest = [] ∨ rest = [.jobReport (jobNumber s) .complete] ∨ rest = [.jobReport (jobNumber s) .released]))
    ∧ t.fill = s.fill ∧ t.faults = s.faults ∧ t.panel = s.panel ∧ SameShare s t ∧ SameModule s t := by
  have k : Concluded u (conclude s0 u) :=
    conclude_phase s0 u (by rw [h.rest]; exact nofun) (by rw [h.rest]; exact nofun)
  obtain ⟨rest, fifo, which, -⟩ := h.fifo
  refine ⟨?_, ?_, ?_, ⟨rest, k.line.1.trans fifo, which⟩, ?_, ?_, ?_, k.sameShare ?_, k.sameModule ?_⟩
  · rw [k.pass, h.rest]; rfl
  · rw [k.diu, h.rest]; rfl
  · rw [k.job, h.job]
  · rw [k.fill, h.rest]; rfl
  · rw [k.faults, h.rest]; rfl
  · rw [k.panel, h.rest]; rfl
  · rw [h.rest]; rfl
  · rw [h.rest]; exact .refl s

/-- The blocks that the end of a pass leaves, where what led to it has left them. -/
theorem PassEnded.frame {o : PassOutcome} {certs : List Notice} (h : PassEnded o certs t u) (s0 : State) {p : Pass}
    {d : Diu} {y : YardLine} (ht : t = { s with job := j, pass := p, diu := d, line := y }) :
    let v := conclude s0 u
    v.fill = s.fill ∧ v.faults = s.faults ∧ v.panel = s.panel ∧ SameShare s v ∧ SameModule s v := by
  subst ht
  obtain ⟨-, -, -, -, frame⟩ := h.concluded s0
  exact frame

/-- What the end of a pass queues, where what led to it has queued nothing. -/
theorem PassEnded.queued {o : PassOutcome} {certs : List Notice} (h : PassEnded o certs t u) (s0 : State) {p : Pass}
    {d : Diu} (ht : t = { s with job := j, pass := p, diu := d }) (record : j.record = s.job.record) :
    ∃ rest, (conclude s0 u).line.fifo = joined (.passResult (passResultOf o t) :: certs ++ rest) s
      ∧ (rest = [] ∨ rest = [.jobReport (jobNumber s) .complete] ∨ rest = [.jobReport (jobNumber s) .released]) := by
  obtain ⟨-, -, -, queued, -⟩ := h.concluded s0
  have number : jobNumber t = jobNumber s := by rw [ht, jobNumber, jobNumber, record]
  have line : t.line = s.line := by rw [ht]
  obtain ⟨rest, fifo, which⟩ := queued
  rw [number] at which
  refine ⟨rest, ?_, which⟩
  rw [fifo, joined, joined, line]

end Sys2Proof.Machine
end

section
/-! SUPPORT. Requests of the pass engine for several members (R29, R30, R94, R103). -/

namespace Sys2Proof.Machine

variable {s t u : State}

/-- The table with the record of one index changed. -/
def updTable (i : Nat) (f : Compartment → Compartment) (table : List Compartment) : List Compartment :=
  table.map (fun c => if c.index = i then f c else c)

theorem updCompartment_eq (i : Nat) (f : Compartment → Compartment) (s : State) :
    updCompartment i f s = s.setJob { s.job with table := updTable i f s.job.table } := rfl

/-- The record of a compartment at an outcome (R94). -/
def outcomeRecord (o : CodeOutcome) (m : Member) (c : Compartment) : Compartment :=
  match o with
  | .transient => { c with state := m.ckState, lastClass := m.ckClass, keyMark := .none }
  | .persistent => { c with state := .rejected, keyMark := .none }
  | .withdrawn => { c with keyMark := .none }

theorem outcomeRecord_index (o : CodeOutcome) (m : Member) (c : Compartment) : (outcomeRecord o m c).index = c.index := by
  cases o <;> rfl

theorem requestOutcome_eq (code : Code) (m : Member) (s : State) :
    requestOutcome code m s = updCompartment m.index (outcomeRecord code.outcome m) s := by
  unfold requestOutcome
  cases code.outcome <;> rfl

/-- Members that leave one by one, each with a change of its record: the pass and the table change alone. -/
theorem foldl_requests (f : Member → Compartment → Compartment) (g : Member → Pass → Pass) (l : List Member) (s : State) :
    l.foldl (fun s m => updCompartment m.index (f m) (s.setPass (g m s.pass))) s
      = (s.setPass (l.foldl (fun p m => g m p) s.pass)).setJob
        { s.job with table := l.foldl (fun table m => updTable m.index (f m) table) s.job.table } := by
  induction l generalizing s with
  | nil => rfl
  | cons m l ih => exact (ih _).trans rfl

/-- Members of different indexes: each record is changed by its own member at most. -/
theorem foldl_updTable {l : List Member} (f : Member → Compartment → Compartment)
    (keeps : ∀ m c, (f m c).index = c.index) (distinct : (l.map (·.index)).Nodup) (table : List Compartment) :
    l.foldl (fun table m => updTable m.index (f m) table) table = table.map (fun x =>
      match l.find? (fun m => m.index == x.index) with
      | none => x
      | some m => f m x) := by
  induction l generalizing table with
  | nil => exact (List.map_id' table).symm
  | cons m l ih =>
    obtain ⟨notAgain, rest⟩ := List.nodup_cons.mp distinct
    rw [List.foldl_cons, ih rest, updTable, List.map_map]
    refine List.map_congr_left (fun x _ => ?_)
    by_cases own : x.index = m.index
    · have noOther : l.find? (fun y => y.index == m.index) = none := by
        rw [List.find?_eq_none]
        exact fun y hy same => notAgain (List.mem_map.mpr ⟨y, hy, beq_iff_eq.mp same⟩)
      rw [Function.comp_apply, if_pos own, keeps, own, noOther, List.find?_cons_of_pos (by simp)]
    · rw [Function.comp_apply, if_neg own, List.find?_cons_of_neg (by simpa using Ne.symm own)]

/-! ## Drain-down's end (R103) -/

/-- The code by which a member leaves at the end of a drain-down. -/
def drainDownCode (abort : Code) (m : Member) : Code :=
  if abort = .jobReleased then .jobReleased else m.retiring.getD abort

/-- The pass without a member at the end of a drain-down. -/
def drainDownDepart (abort : Code) (m : Member) (p : Pass) : Pass :=
  p.depart m.index (if abort = .jobReleased then .aborted else match m.retiring with
    | some code => .retired code
    | none => .aborted)

theorem drainDownMember_eq (abort : Code) (m : Member) (s : State) : drainDownMember abort m s
    = updCompartment m.index (outcomeRecord (drainDownCode abort m).outcome m)
      (s.setPass (drainDownDepart abort m s.pass)) := by
  unfold drainDownMember drainDownCode drainDownDepart
  by_cases released : abort = .jobReleased
  · rw [if_pos released, if_pos released, if_pos released]
    rfl
  · rw [if_neg released, if_neg released, if_neg released]
    cases m.retiring with
    | none => exact requestOutcome_eq _ _ _
    | some code => exact requestOutcome_eq _ _ _

/-- Every member has its outcome. -/
theorem drainDownMembers_eq (abort : Code) (s : State) : ∃ p,
    s.pass.members.foldl (fun s m => drainDownMember abort m s) s = (s.setPass p).setJob { s.job with
      table := s.pass.members.foldl
        (fun table m => updTable m.index (outcomeRecord (drainDownCode abort m).outcome m) table) s.job.table } := by
  have each : (fun s m => drainDownMember abort m s) = fun s m => updCompartment m.index
      (outcomeRecord (drainDownCode abort m).outcome m) (s.setPass (drainDownDepart abort m s.pass)) := by
    funext s m
    exact drainDownMember_eq abort m s
  rw [each]
  exact ⟨_, foldl_requests _ (drainDownDepart abort) _ _⟩

theorem endDrainDown_eq {code : Code} (h : s.pass.abortCode = some code) : endDrainDown s
    = endPass (.aborted code) [] (s.pass.members.foldl (fun s m => drainDownMember code m s) s) := by
  simp only [endDrainDown, h]

theorem exec_drainDown_end {c : Instr} (running : s.power = .running) (h : c = .drainDownQuiet ∨ c = .drainDownTimeout) :
    exec c s = .next (conclude s (endIfDrainDown s)) := by
  obtain rfl | rfl := h
  · unfold exec execDrainDownQuiet
    exact event_running _ s running
  · unfold exec execDrainDownTimeout
    exact event_running _ s running

/-- Outside DRAIN and DRAIN_DOWN the outlets are shut. -/
theorem drive_outlets_shut (notDrain : s.pass.phase ≠ .drain) (notDrainDown : s.pass.phase ≠ .drainDown) :
    (drive s).outlets = 0 := by
  obtain ⟨-, e⟩ | ⟨-, e⟩ | ⟨-, e⟩ := drive_cases s
  · rw [e]; rfl
  · rw [e]; rfl
  · rw [e]; exact outletsOpen_closed notDrain notDrainDown

end Sys2Proof.Machine
end

section
open Sys2Proof Sys2Proof.Machine

/-- Settles O44: every member has the outcome of its code, then the pass ends (`endPass_ended`). -/
theorem drainDownEnds : Obligations.DrainDownEnds := by
  unfold Obligations.DrainDownEnds
  intro c s running hc
  have taken := exec_drainDown_end running hc
  refine ⟨fun notDrainDown => ?_, fun code drainDown abort distinct room => ?_⟩
  · rw [show endIfDrainDown s = s from if_neg notDrainDown] at taken
    have k := conclude_same s s rfl
    exact ⟨_, taken, k.pass, k.job, k.sameDiuFillFaults rfl rfl rfl, k.panel, k.sameShare rfl, k.sameModule (.refl s),
      k.sending rfl⟩
  · obtain ⟨p, left⟩ := drainDownMembers_eq code s
    let table := s.pass.members.foldl
      (fun table m => updTable m.index (outcomeRecord (drainDownCode code m).outcome m) table) s.job.table
    let w := (s.setPass p).setJob { s.job with table := table }
    have effect : endIfDrainDown s = endPass (.aborted code) [] w :=
      (if_pos drainDown).trans ((endDrainDown_eq abort).trans (by rw [left]))
    rw [effect] at taken
    have ended : PassEnded (.aborted code) [] w (endPass (.aborted code) [] w) := endPass_ended _ _ room
    obtain ⟨pass, diu, isTable, -⟩ := ended.concluded s
    obtain ⟨rest, fifo, which⟩ := ended.queued s (s := s) rfl rfl
    obtain ⟨fill, faults, panel, share, module⟩ := ended.frame s (s := s) rfl
    have records : table = _ := foldl_updTable _ (fun m => outcomeRecord_index _ m) distinct s.job.table
    have outs := conclude_outs s (endPass (.aborted code) [] w)
    generalize conclude s (endPass (.aborted code) [] w) = t at taken outs pass diu isTable fifo fill faults panel share module
    refine ⟨t, taken, pass, ?_, ?_, ?_, ?_, ⟨_, rest, fifo, rfl, which⟩, fill, faults, panel, share, module⟩
    · rw [outs]
      exact drive_outlets_shut (by rw [pass]; exact nofun) (by rw [pass]; exact nofun)
    · rw [diu]
    · rw [diu]
    · rw [isTable]
      refine records.trans (List.map_congr_left (fun x _ => ?_))
      cases s.pass.members.find? (fun m => m.index == x.index) with
      | none => rfl
      | some m => rfl

end

section
/-! SUPPORT. The commit of a pass (R30, R77, R78). -/

namespace Sys2Proof.Machine

variable {s t u : State}

/-! ## The stage after this one (R62) -/

theorem stage_lt_of_some {g : Stage} (h : (recipeOf s.pass).stages[s.pass.stage]? = some g) :
    s.pass.stage < (recipeOf s.pass).stages.length := (List.getElem?_eq_some_iff.mp h).1

theorem advanceOrCommit_advances {g : Stage} (h : (recipeOf s.pass).stages[s.pass.stage]? = some g) :
    advanceOrCommit s = goOn .following s := if_pos (stage_lt_of_some h)

theorem advanceOrCommit_commits (h : (recipeOf s.pass).stages.length ≤ s.pass.stage) :
    advanceOrCommit s = commitPass s := if_neg (not_lt.mpr h)

/-- Without a pending HOLD the step is begun (R75). -/
theorem goOn_begins (n : NextStep) (unheld : s.pass.pendingHold = false) : goOn n s = beginStep n s :=
  if_neg (ne_true_of_eq_false unheld)

/-! ## One member (R77, R78) -/

theorem compartment?_of_mem {c : Compartment} (distinct : (s.job.table.map (·.index)).Nodup) (hc : c ∈ s.job.table) :
    compartment? s c.index = some c := by
  cases found : compartment? s c.index with
  | none => exact absurd (List.find?_eq_none.mp found c hc) (by simp)
  | some d =>
    have same : d.index = c.index := compartment?_index found
    rw [List.inj_on_of_nodup_map distinct (List.mem_of_find?_eq_some found) hc same]

/-- `x` is a certificate of member `m`, whose compartment was `c`, in the pass of `s`. -/
def CertifiedIn (s : State) (m : Member) (c : Compartment) (x : Certificate) : Prop :=
  x.passNumber = s.pass.number ∧ x.recipe = s.pass.recipe ∧ x.fitFor = c.nextClass
  ∧ x.grade = (if 0 < s.pass.class2 then .c else if s.pass.class3 + m.own = 0 then .a else .b)
  ∧ x.repeatsUsed = s.pass.repeats ∧ x.filteredFaults = s.pass.class2 + s.pass.class3 + m.own
  ∧ x.commitTime = s.job.clock

theorem certificateFor_certifiedIn {c : Compartment} {m : Member} (found : compartment? s m.index = some c) :
    CertifiedIn s m c (certificateFor m s) := by
  refine ⟨rfl, rfl, ?_, rfl, rfl, rfl, rfl⟩
  show ((compartment? s m.index).map (·.nextClass)).getD 0 = _
  rw [found]
  rfl

/-- The record of a compartment at the commit of its member (R30). -/
def committedRecord (x : Certificate) (c : Compartment) : Compartment :=
  { c with state := .clean, certificate := some x, keyMark := .none }

theorem commitMember_eq (m : Member) (s : State) : commitMember m s
    = (s.setPass (s.pass.depart m.index (.certified (gradeOf s.pass m.own)))).setJob { s.job with
      table := updTable m.index (committedRecord (certificateFor m s)) s.job.table } := rfl

/-! ## All members -/

/-- The commits change the pass and the table alone, the pass keeping its number. -/
theorem commitMembers_frame (l : List Member) (s : State) : ∃ p table,
    l.foldl (fun s m => commitMember m s) s = (s.setPass p).setJob { s.job with table := table }
    ∧ p.number = s.pass.number := by
  induction l generalizing s with
  | nil => exact ⟨s.pass, s.job.table, rfl, rfl⟩
  | cons m l ih =>
    obtain ⟨p, table, rest, number⟩ := ih (commitMember m s)
    exact ⟨p, table, rest, number⟩

theorem updTable_index (i : Nat) {f : Compartment → Compartment} (keeps : ∀ c, (f c).index = c.index)
    (table : List Compartment) : (updTable i f table).map (·.index) = table.map (·.index) := by
  rw [updTable, List.map_map]
  refine List.map_congr_left (fun c _ => ?_)
  by_cases own : c.index = i <;> simp [own, keeps]

theorem mem_updTable_of_other {i : Nat} {f : Compartment → Compartment} {table : List Compartment} {c : Compartment}
    (hc : c ∈ table) (other : c.index ≠ i) : c ∈ updTable i f table :=
  List.mem_map.mpr ⟨c, hc, if_neg other⟩

/-- A compartment that is no member's stands. -/
theorem commitMembers_others {c : Compartment} (l : List Member) (s : State) (hc : c ∈ s.job.table)
    (other : ∀ m ∈ l, m.index ≠ c.index) : c ∈ (l.foldl (fun s m => commitMember m s) s).job.table := by
  induction l generalizing s with
  | nil => exact hc
  | cons m l ih =>
    refine ih (commitMember m s) ?_ (fun x hx => other x (List.mem_cons_of_mem _ hx))
    exact mem_updTable_of_other hc (Ne.symm (other m List.mem_cons_self))

/-- Every member's compartment is CLEAN with its certificate. -/
theorem commitMembers_certified (l : List Member) (s : State) (members : (l.map (·.index)).Nodup)
    (distinct : (s.job.table.map (·.index)).Nodup) : ∀ m ∈ l, ∀ c ∈ s.job.table, c.index = m.index →
      ∃ x, committedRecord x c ∈ (l.foldl (fun s m => commitMember m s) s).job.table ∧ CertifiedIn s m c x := by
  induction l generalizing s with
  | nil => exact fun m hm => absurd hm List.not_mem_nil
  | cons m l ih =>
    obtain ⟨notAgain, members'⟩ := List.nodup_cons.mp members
    intro y hy c hc index
    obtain rfl | hy := List.mem_cons.mp hy
    · have found : compartment? s y.index = some c := index ▸ compartment?_of_mem distinct hc
      refine ⟨certificateFor y s, commitMembers_others l (commitMember y s) ?_ (fun x hx same => ?_),
        certificateFor_certifiedIn found⟩
      · exact List.mem_map.mpr ⟨c, hc, if_pos index⟩
      · exact notAgain (List.mem_map.mpr ⟨x, hx, same.trans index⟩)
    · have other : c.index ≠ m.index :=
        fun same => notAgain (List.mem_map.mpr ⟨y, hy, index.symm.trans same⟩)
      have distinct' : ((commitMember m s).job.table.map (·.index)).Nodup := by
        rw [commitMember_eq]
        show ((updTable _ _ s.job.table).map (·.index)).Nodup
        rwa [updTable_index m.index (f := committedRecord (certificateFor m s)) (fun _ => rfl)]
      exact ih (commitMember m s) members' distinct' y hy c (mem_updTable_of_other hc other) index

/-- With no retiring member nobody leaves before the commit. -/
theorem retiringLeave_none (none : ∀ m ∈ s.pass.members, m.retiring = none) : retiringLeave s = s := by
  have stands (l : List Member) (h : ∀ m ∈ l, m.retiring = .none) : l.foldl (fun s m =>
      match m.retiring with
      | some code => leave m.index code s
      | .none => s) s = s := by
    induction l with
    | nil => rfl
    | cons m l ih =>
      rw [List.foldl_cons, h m List.mem_cons_self]
      exact ih (fun x hx => h x (List.mem_cons_of_mem _ hx))
  exact stands _ none

/-- The commit of a pass with no retiring member (R77). -/
theorem commitPass_eq (some : s.pass.members ≠ []) (none : ∀ m ∈ s.pass.members, m.retiring = none) :
    commitPass s = endPass .complete (s.pass.members.map (fun m => certificateNotice m s))
      (s.pass.members.foldl (fun s m => commitMember m s) s) := by
  unfold commitPass
  rw [retiringLeave_none none]
  exact if_neg some

theorem exec_dryTimeExpiry (running : s.power = .running) : exec .dryTimeExpiry s = .next (conclude s (endDry s)) := by
  unfold exec execDryTimeExpiry
  exact event_running _ s running

end Sys2Proof.Machine
end

section
open Sys2Proof Sys2Proof.Machine

/-- Settles O43: nothing outside DRY; the following DRY entered; or every member committed and the pass ended. -/
theorem dryTimeExpiryGoesOnOrCommits : Obligations.DryTimeExpiryGoesOnOrCommits := by
  unfold Obligations.DryTimeExpiryGoesOnOrCommits
  intro s running
  have taken := exec_dryTimeExpiry running
  refine ⟨fun notDry => ?_, fun g dry unheld next kind => ?_, fun dry last some none members distinct room => ?_⟩
  · rw [show endDry s = s from if_neg notDry] at taken
    have k := conclude_same s s rfl
    exact ⟨_, taken, k.pass, k.job, k.sameDiuFillFaults rfl rfl rfl, k.panel, k.sameShare rfl, k.sameModule (.refl s),
      k.sending rfl⟩
  · obtain ⟨begun, isStage⟩ := beginStep_dry next kind
    have effect : endDry s = enterDry (atStage (s.pass.stage + 1) s) := by
      rw [← begun, ← goOn_begins .following unheld, ← advanceOrCommit_advances next]
      exact if_pos dry
    rw [effect] at taken
    have k := conclude_phase s (enterDry (atStage (s.pass.stage + 1) s)) nofun nofun
    refine ⟨_, taken, ?_⟩
    rw [k.pass]
    exact ⟨rfl, rfl, congrArg (fun x : Stage => x.timeLimit * 1000) isStage, rfl, rfl, k.job,
      k.sameDiuFillFaults rfl rfl rfl, k.sameShare rfl, k.sameModule (.refl s), k.sending rfl⟩
  · let w := s.pass.members.foldl (fun s m => commitMember m s) s
    let certs := s.pass.members.map (fun m => certificateNotice m s)
    have effect : endDry s = endPass .complete certs w := by
      rw [← commitPass_eq some none, ← advanceOrCommit_commits last]
      exact if_pos dry
    obtain ⟨p, table, rest, number⟩ := commitMembers_frame s.pass.members s
    have certified := commitMembers_certified s.pass.members s members distinct
    have others := fun c hc => commitMembers_others (c := c) s.pass.members s hc
    have isW : w = { s with job := { s.job with table := table }, pass := p } := rest
    have ended : PassEnded .complete certs w (endPass .complete certs w) :=
      endPass_ended _ _ (by rw [FifoBounded, isW]; exact room)
    have outcome : (passResultOf .complete w).outcome = .complete := rfl
    have isNumber : (passResultOf .complete w).number = s.pass.number := (congrArg (·.pass.number) isW).trans number
    rw [effect] at taken
    obtain ⟨pass, diu, isTable, -⟩ := ended.concluded s
    obtain ⟨more, fifo, which⟩ := ended.queued s (s := s) isW rfl
    obtain ⟨fill, faults, panel, share, module⟩ := ended.frame s (s := s) isW
    generalize conclude s (endPass .complete certs w) = t at taken pass diu isTable fifo fill faults panel share module
    refine ⟨t, taken, pass, ?_, ?_, ?_, fun m hm c hc index => ?_, fun c hc other => ?_,
      ⟨_, more, fifo, outcome, isNumber, which⟩, fill, faults, panel, share, module⟩
    · rw [diu]
    · rw [diu]; rfl
    · rw [diu]; rfl
    · obtain ⟨x, hx, isCertificate⟩ := certified m hm c hc index
      exact ⟨committedRecord x c, by rw [isTable]; exact hx, x, rfl, isCertificate⟩
    · rw [isTable]
      exact others c hc other

end

section
/-! SUPPORT. A member that leaves (R95, R96, R98). -/

namespace Sys2Proof.Machine

variable {s t u : State}

/-! ## Members -/

theorem member?_index {p : Pass} {i : Nat} {m : Member} (h : member? p i = some m) : m.index = i := by
  simpa using List.find?_some h

/-- A member changed is found so. -/
theorem member?_updMember {p : Pass} {i : Nat} {m : Member} {f : Member → Member} (keeps : ∀ m, (f m).index = m.index)
    (h : member? p i = some m) : member? (p.updMember i f) i = some (f m) := by
  obtain ⟨index, before, after, split', others⟩ := List.find?_eq_some_iff_append.mp h
  refine List.find?_eq_some_iff_append.mpr ⟨by rw [keeps]; exact index, before.map (fun m => if m.index = i then f m else m),
    after.map (fun m => if m.index = i then f m else m), ?_, fun x hx => ?_⟩
  · show p.members.map _ = _
    rw [split', List.map_append, List.map_cons, if_pos (beq_iff_eq.mp index)]
  · obtain ⟨y, hy, rfl⟩ := List.mem_map.mp hx
    have other : y.index ≠ i := by simpa using others y hy
    rw [if_neg other]
    exact others y hy

/-- Without the member of an index the change of that member does not show. -/
theorem filter_updMember {p : Pass} {i : Nat} {f : Member → Member} (keeps : ∀ m, (f m).index = m.index) :
    (p.updMember i f).members.filter (fun m => m.index != i) = p.members.filter (fun m => m.index != i) := by
  show (p.members.map _).filter _ = _
  induction p.members with
  | nil => rfl
  | cons m l ih =>
    by_cases own : m.index = i
    · rw [List.map_cons, if_pos own, List.filter_cons_of_neg (by simp [keeps, own]), List.filter_cons_of_neg (by simp [own])]
      exact ih
    · rw [List.map_cons, if_neg own, List.filter_cons_of_pos (by simp [own]), List.filter_cons_of_pos (by simp [own]), ih]

/-! ## The state that a member leaves behind -/

/-- The pass without member `m`, gone with `code`; `late` says what may still come. -/
def passWithout (code : Code) (m : Member) (late : Late) (p : Pass) : Pass :=
  { p with
    members := p.members.filter (fun x => x.index != m.index)
    drainList := p.drainList.filter (fun j => j != m.index)
    departed := insertResult { index := m.index, outcome := .retired code, own := m.own } p.departed
    late := late }

/-- The state without member `m`, before the close check. -/
def without (code : Code) (m : Member) (late : Late) (s : State) : State :=
  ((s.setPass (passWithout code m late s.pass)).setJob
    { s.job with table := updTable m.index (outcomeRecord code.outcome m) s.job.table }).setDiu
    { s.diu with histories := s.diu.histories.filter (fun h => h.index != m.index) }

/-- After a member has left: the close check, unless it was the last (R98). -/
def checkedAfter (s : State) : State := if s.pass.members = [] then s else closeCheck s

theorem leave_eq {code : Code} {m : Member} {i : Nat} (hm : member? s.pass i = some m) :
    leave i code s = checkedAfter (without code m s.pass.late s) := by
  obtain rfl := member?_index hm
  unfold leave
  rw [hm]
  dsimp only
  rw [requestOutcome_eq, Pass.depart, hm]
  rfl

/-- A member that retires at its window's end, noted for an abort of the same ms (R131). -/
def notedLate (code : Code) (m : Member) (s : State) : Late :=
  { lateOfRetiring m.index s with left := s.pass.late.left
      ++ [{ member := { m with retiring := some code, passed := false }, mark := keyMarkOf s m.index }] }

theorem retire_atWindowEnd {code : Code} {m : Member} {i : Nat} (hm : member? s.pass i = some m)
    (goesOn : m.retiring = none) :
    retire true code i s = checkedAfter (without code m (notedLate code m s) s) := by
  obtain rfl := member?_index hm
  let f : Member → Member := fun x => { x with retiring := some code, passed := false }
  let p : Pass := (s.pass.updMember m.index f).setLate (notedLate code m s)
  have left : retire true code m.index s = leave m.index code (s.setPass p) := by
    unfold retire
    rw [hm]
    dsimp only
    rw [if_neg (by simp [goesOn])]
    exact if_pos (by simp [leavesAtOnce])
  have hm' : member? (s.setPass p).pass m.index = some (f m) := member?_updMember (p := s.pass) (f := f) (fun _ => rfl) hm
  have members : p.members.filter (fun x => x.index != m.index) = s.pass.members.filter (fun x => x.index != m.index) :=
    filter_updMember (p := s.pass) (f := f) (fun _ => rfl)
  have same : without code (f m) (s.setPass p).pass.late (s.setPass p) = without code m (notedLate code m s) s := by
    have pass : passWithout code (f m) (notedLate code m s) p = passWithout code m (notedLate code m s) s.pass := by
      show ({ p with members := p.members.filter (fun x => x.index != m.index), drainList := _, departed := _, late := _ } : Pass) = _
      rw [members]
      rfl
    show (((s.setPass p).setPass (passWithout code (f m) (notedLate code m s) p)).setJob _).setDiu _ = _
    rw [pass]
    rfl
  rw [left, leave_eq hm', same]

theorem checkedAfter_returned (s : State) : Returned s (checkedAfter s) := by
  unfold checkedAfter
  split
  · exact .refl s
  · exact closeCheck_returned s

theorem checkedAfter_table (s : State) : (checkedAfter s).job.table = s.job.table := by
  unfold checkedAfter
  split
  · rfl
  · exact closeCheck_table s

/-- Without a job that is complete, or after the last member, no check ends the job. -/
theorem checkedAfter_of_incomplete (h : s.pass.members = [] ∨ ¬ JobComplete s) : checkedAfter s = s := by
  unfold checkedAfter
  split
  · rfl
  next some => exact closeCheck_of_incomplete (h.resolve_left some)

theorem closeCheck_pass_of_not_gathering (notGathering : s.pass.phase ≠ .gathering) : (closeCheck s).pass = s.pass := by
  unfold closeCheck
  dsimp only
  have same : (queueEvent (.jobReport (jobNumber s) .complete) s).pass = s.pass := by
    unfold queueEvent
    split <;> rfl
  split
  · rw [if_neg (by simpa [same] using notGathering)]
    exact same
  · rfl

theorem checkedAfter_pass_of_not_gathering (notGathering : s.pass.phase ≠ .gathering) :
    (checkedAfter s).pass = s.pass := by
  unfold checkedAfter
  split
  · rfl
  · exact closeCheck_pass_of_not_gathering notGathering

theorem checkedAfter_pass_cases (s : State) : (checkedAfter s).pass = s.pass ∨ (checkedAfter s).pass = Pass.idle := by
  unfold checkedAfter
  split
  · exact .inl rfl
  · exact closeCheck_pass_cases s

end Sys2Proof.Machine
end

section
/-! SUPPORT. The report of a window that ended DRAINED (R74, R122 to R124). -/

namespace Sys2Proof.Machine

variable {s t u : State}

theorem slowCheck_drained (i : Nat) (s : State) : slowCheck i .drained s = s := if_pos rfl

theorem takeReport_drained {w : Window} {m : Member} (hm : member? s.pass w.member = some m) (goesOn : m.retiring = none) :
    takeReport w .drained s = takeVerdict w.member m w s := by
  unfold takeReport
  rw [hm]
  dsimp only
  rw [goesOn]
  dsimp only
  rw [slowCheck_drained, hm]
  dsimp only
  rw [goesOn]
  rfl

theorem takeVerdict_finalRinse {w : Window} {m : Member} {v : Verdict} (i : Nat)
    (final : (stageOf s.pass).kind = .finalRinse) (inspected : w.inspected = true) (hv : memberVerdict w = some v) :
    takeVerdict i m w s = finalVerdict i w v s := by
  simp only [takeVerdict, inspected, if_true, final, hv]

/-! ## Prediction (R128 to R130) -/

theorem windowForecast_none {p : Option ChannelParams} {x : Option ChannelWin} {volume : Nat} {l : List Nat}
    (h : p = none ∨ x = none ∨ l.length < 2) : windowForecast p x volume l = none := by
  unfold windowForecast
  split
  next q y =>
    have short : l.length < 2 := (h.resolve_left nofun).resolve_left nofun
    match l, short with
    | [], _ => rfl
    | [last], _ =>
      show (if last ≤ _ then none else none) = none
      split <;> rfl
  · rfl

theorem windowForecast_two (q : ChannelParams) (y : ChannelWin) (volume : Nat) (l : List Nat) (prev last : Nat) :
    windowForecast (some q) (some y) volume (l ++ [prev, last])
      = if q.limit * volume / 1000 < last then some (forecastOf last prev (q.limit * volume / 1000)) else none := by
  have newest : (l ++ [prev, last]).reverse = last :: prev :: l.reverse := by simp
  show channelForecast (residueLimit q.limit volume) (l ++ [prev, last]).reverse = _
  rw [newest, channelForecast, residueLimit]
  by_cases above : q.limit * volume / 1000 < last
  · rw [if_neg (not_le.mpr above), if_pos above]
  · rw [if_pos (not_lt.mp above), if_neg above]

theorem prediction_eq {w : Window} {h : History} (found : s.diu.histories.find? (fun h => h.index == w.member) = some h) :
    prediction w s
      = combine (windowForecast w.paramsC w.c w.volume h.c) (windowForecast w.paramsT w.t w.volume h.t) := by
  unfold prediction history?
  rw [found]

theorem combine_never {a b : Option Forecast} (h : a = some .never ∨ b = some .never) :
    combine a b = some .never := by
  obtain rfl | rfl := h
  · rfl
  · rcases a with _ | ⟨_⟩ | _ <;> rfl

/-- The worse of two verdicts is one of them, and no better than either. -/
theorem worse_cases (a b : Verdict) :
    (worse a b = a ∨ worse a b = b) ∧ a.rank ≤ (worse a b).rank ∧ b.rank ≤ (worse a b).rank := by
  unfold worse
  by_cases le : a.rank ≤ b.rank
  · rw [if_pos le]
    exact ⟨.inr rfl, le, le_refl _⟩
  · rw [if_neg le]
    exact ⟨.inl rfl, le_refl _, by omega⟩

end Sys2Proof.Machine
end

section
open Sys2Proof Sys2Proof.Machine

/-- Settles O41: the verdict passes, leaves or retires the member; the rest is the arithmetic of the prediction. -/
theorem finalRinseReportDecides : Obligations.FinalRinseReportDecides := by
  unfold Obligations.FinalRinseReportDecides
  refine ⟨fun w m v s final inspected hm goesOn hv => ?_, fun p x volume l => ⟨windowForecast_none, ?_⟩,
    fun w h s found => ?_, fun remaining n => ⟨rfl, rfl, decide_eq_true_iff⟩, worse_cases⟩
  · rw [takeReport_drained hm goesOn, takeVerdict_finalRinse _ final inspected hv]
    unfold finalVerdict
    refine ⟨fun clear => if_pos clear, fun unclear hopes => ?_, fun unclear hopeless' => ?_⟩
    · rw [if_neg unclear, if_neg (ne_true_of_eq_false hopes)]
    · rw [if_neg unclear, if_pos hopeless', retire_atWindowEnd hm goesOn]
      rw [← member?_index hm]
      let v := without .residuePersists m (notedLate .residuePersists m s) s
      show (∀ x ∈ (checkedAfter v).pass.members, _) ∧ (∀ x ∈ (checkedAfter v).job.table, _)
        ∧ (∀ h ∈ (checkedAfter v).diu.histories, _) ∧ (_ → (checkedAfter v).pass.late.left = _)
      refine ⟨fun x hx => ?_, fun x hx index => ?_, fun h hh => ?_, fun drain => ?_⟩
      · obtain same | idle := checkedAfter_pass_cases v
        · rw [same] at hx
          simpa using (List.mem_filter.mp hx).2
        · rw [idle] at hx
          exact absurd hx List.not_mem_nil
      · rw [checkedAfter_table] at hx
        obtain ⟨y, -, rfl⟩ := List.mem_map.mp hx
        by_cases own : y.index = m.index
        · rw [if_pos own]; rfl
        · rw [if_neg own] at index
          exact absurd index own
      · obtain ⟨diu, -⟩ := (checkedAfter_returned v).diuFillFaults
        rw [diu] at hh
        simpa using (List.mem_filter.mp hh).2
      · rw [checkedAfter_pass_of_not_gathering (s := v) (fun h => nomatch drain.symm.trans h)]
        rfl
  · rintro q y l' prev last rfl rfl rfl
    exact windowForecast_two q y volume l' prev last
  · intro a b
    rw [prediction_eq found]
    refine ⟨combine_never, fun m n ha hb => ?_, fun n h => ?_, fun ha hb => ?_⟩
    · show combine a b = _
      rw [ha, hb]; rfl
    · show combine a b = _
      obtain ⟨ha, hb⟩ | ⟨ha, hb⟩ := h <;> rw [ha, hb] <;> rfl
    · show combine a b = _
      rw [ha, hb]; rfl

end

section
/-! SUPPORT. The end of a pass without the end of its event, and the decision on a probe (R80, R132 to R135). -/

namespace Sys2Proof.Machine

variable {s t u v : State}

/-- What the end of a pass leaves, `p` being the pass that ended and `table` the table that its requests have left. -/
theorem endPass_fields (o : PassOutcome) {p : Pass} {d : Diu} {table : List Compartment} (room : FifoBounded s) :
    let u := endPass o [] { s with job := { s.job with table := table }, pass := p, diu := d }
    u.pass = Pass.idle ∧ u.faults = s.faults ∧ u.diu.histories = [] ∧ u.diu.window = none ∧ u.job.table = table
    ∧ ∃ r rest, u.line.fifo = joined (.passResult r :: rest) s ∧ r.outcome = o ∧ r.number = p.number
      ∧ r.members = p.departed
      ∧ (rest = [] ∨ rest = [.jobReport (jobNumber s) .complete] ∨ rest = [.jobReport (jobNumber s) .released]) := by
  have ended := endPass_ended o [] (s := { s with job := { s.job with table := table }, pass := p, diu := d }) room
  generalize endPass o [] _ = u at ended
  obtain ⟨isEnd, job, -, rest, fifo, which, -⟩ := ended
  refine ⟨by rw [isEnd]; rfl, by rw [isEnd]; rfl, by rw [isEnd]; rfl, by rw [isEnd]; rfl, by rw [job], _, rest, fifo, rfl,
    rfl, rfl, which⟩

/-! ## The probe's candidates (R133) -/

theorem mem_candidates (g c : Nat) : c ∈ candidates s g ↔ 1 ≤ c ∧ c ≤ 15 ∧ classEnabled s c = true
    ∧ (detectMask s).getLsbD c = true ∧ ∃ e, class? s c = some e ∧ e.sigLow ≤ g ∧ g ≤ e.sigHigh := by
  have range : c ∈ List.range' 1 15 ↔ 1 ≤ c ∧ c ≤ 15 := by
    rw [List.mem_range'_1]
    omega
  have signature : inSignature s c g = true ↔ ∃ e, class? s c = some e ∧ e.sigLow ≤ g ∧ g ≤ e.sigHigh := by
    unfold inSignature
    cases class? s c <;> simp
  rw [candidates, List.mem_filter, range, Bool.and_eq_true, Bool.and_eq_true, signature]
  tauto

theorem candidates_nodup (s : State) (g : Nat) : (candidates s g).Nodup := List.Nodup.filter _ List.nodup_range'

/-- One candidate alone. -/
theorem candidates_eq_singleton {g c : Nat} (mem : c ∈ candidates s g) (only : ∀ d ∈ candidates s g, d = c) :
    candidates s g = [c] := by
  have distinct := candidates_nodup s g
  cases list : candidates s g with
  | nil => simp [list] at mem
  | cons d l =>
    rw [list] at only distinct
    obtain rfl : d = c := only d List.mem_cons_self
    cases l with
    | nil => rfl
    | cons e l =>
      obtain rfl : e = d := only e (List.mem_cons_of_mem _ List.mem_cons_self)
      simp at distinct

/-! ## The end of the probe's window -/

/-- The member after its turn, with its signature. -/
def probedMember (g : Option Signature) (m : Member) : Member := { m with wetted := false, signature := g }

/-- The pass after the probe's turn. -/
def probedPass (g : Option Signature) (m : Member) (p : Pass) : Pass :=
  { p with members := [probedMember g m], draining := none, drainList := [] }

/-- The state in which the probe is decided. -/
def probed (g : Option Signature) (w : Window) (m : Member) (s : State) : State :=
  { s with pass := probedPass g m s.pass,
           diu := { s.diu with window := none, histories := appendHistory w s.diu.histories } }

theorem endTurn_probe {w : Window} {m : Member} (members : s.pass.members = [m]) (unsigned : m.signature = none)
    (list : s.pass.drainList = [m.index]) : endTurn m.index (closeRecord w s) = probed none w m s := by
  have turned : s.pass.members.map (fun x => if x.index = m.index then { x with wetted := false } else x)
      = [probedMember none m] := by
    rw [members, List.map_singleton, if_pos rfl, probedMember, ← unsigned]
  have noneLeft : s.pass.drainList.filter (fun j => j != m.index) = [] := by rw [list]; simp
  have turn : endTurn m.index (closeRecord w s) = (closeRecord w s).setPass { s.pass with
      members := s.pass.members.map (fun x => if x.index = m.index then { x with wetted := false } else x)
      draining := none, drainList := s.pass.drainList.filter (fun j => j != m.index) } := rfl
  rw [turn, turned, noneLeft]
  rfl

theorem member?_probed (g : Option Signature) (w : Window) (m : Member) (s : State) :
    member? (probed g w m s).pass m.index = some (probedMember g m) := member?_of_head (m := probedMember g m) (l := []) rfl

/-- The report of the probe's window: its signature where it was inspected. -/
theorem takeReport_probe {w : Window} {m : Member} (probe : s.pass.probe = true)
    (preRinse : (stageOf s.pass).kind = .preRinse) (own : w.member = m.index) (goesOn : m.retiring = none) :
    takeReport w .drained (probed none w m s)
      = probed (if w.inspected then signatureOf w else none) w m s := by
  have hm : member? (probed none w m s).pass w.member = some (probedMember none m) := own ▸ member?_probed none w m s
  have kind : (stageOf (probed none w m s).pass).kind = .preRinse := preRinse
  have isProbe : (probed none w m s).pass.probe = true := probe
  rw [takeReport_drained hm goesOn, takeVerdict]
  cases w.inspected with
  | false => rfl
  | true =>
    simp only [if_true, kind, isProbe]
    have one : (probed none w m s).pass.members.map (fun x => if x.index = w.member then
        { x with signature := signatureOf w } else x) = [probedMember (signatureOf w) m] := by
      show [if m.index = w.member then probedMember (signatureOf w) m else probedMember none m] = _
      rw [if_pos own.symm]
    show (probed none w m s).setPass { (probed none w m s).pass with members := (probed none w m s).pass.members.map _ } = _
    rw [one]
    rfl

/-- After the probe's window the probe is decided. -/
theorem afterWindow_probe (g : Option Signature) {w : Window} {m : Member} (probe : s.pass.probe = true) :
    afterWindow (probed g w m s) = decideProbe (probedMember g m) (probed g w m s) := by
  have stageRun : endStageRun (probed g w m s) = decideProbe (probedMember g m) (probed g w m s) := by
    unfold endStageRun
    rw [show (probed g w m s).pass.probe = true from probe]
    rfl
  rw [← stageRun]
  unfold afterWindow
  rw [if_neg (by exact List.cons_ne_nil _ _)]
  exact if_pos rfl

/-- The only member retires: the pass ends ALL_RETIRED, its compartment REJECTED. -/
theorem retire_probe {code : Code} (g : Option Signature) {w : Window} {m : Member} (persistent : code.outcome = .persistent)
    (goesOn : m.retiring = none) : ∃ p d, retire true code m.index (probed g w m s)
      = { s with job := { s.job with table := s.job.table.map (fun y => if y.index = m.index then
          { y with state := .rejected, keyMark := .none } else y) }, pass := p, diu := d }
      ∧ p.number = s.pass.number
      ∧ p.departed = insertResult { index := m.index, outcome := .retired code, own := m.own } s.pass.departed := by
  have empty : [probedMember g m].filter (fun x => x.index != m.index) = [] := by simp [probedMember]
  rw [retire_atWindowEnd (member?_probed g w m s) goesOn, checkedAfter_of_incomplete (.inl (by exact empty))]
  unfold without
  rw [persistent]
  exact ⟨_, _, rfl, rfl, rfl⟩

theorem candidates_probed (g : Option Signature) (w : Window) (m : Member) (s : State) (value : Nat) :
    candidates (probed g w m s) value = candidates s value := rfl

theorem decideProbe_unresolved {g : Signature} {w : Window} {m : Member}
    (many : ∀ c, (if g.usable then candidates s g.value else []) ≠ [c]) :
    decideProbe (probedMember (some g) m) (probed (some g) w m s)
      = endPass .allRetired [] (retire true .classUnresolved m.index (probed (some g) w m s)) := by
  show (match (if g.usable then candidates s g.value else []) with
    | [c] => _
    | _ => _) = _
  generalize (if g.usable then candidates s g.value else []) = l at many
  match l with
  | [] => rfl
  | [c] => exact absurd rfl (many c)
  | _ :: _ :: _ => rfl

/-- The record of a compartment whose cargo is identified (R30, R13). -/
def identifiedRecord (s : State) (c : Nat) (y : Compartment) : Compartment :=
  match recipeForPair s c y.nextClass with
  | some n => { y with lastClass := c, recipe := some n, state := .soiled, keyMark := .none }
  | none => { y with lastClass := c, state := .barred, keyMark := .none }

/-- The state in which the probe's pass ends COMPLETE. -/
def identified (g : Option Signature) (c : Nat) (w : Window) (m : Member) (s : State) : State :=
  { s with
    job := { s.job with table := s.job.table.map (fun y => if y.index = m.index then identifiedRecord s c y else y) }
    pass := (probedPass g m s.pass).depart m.index (.identified c)
    diu := { s.diu with window := none, histories := appendHistory w s.diu.histories } }

theorem departed_probed (g : Option Signature) (m : Member) (o : MemberOutcome) (p : Pass) :
    ((probedPass g m p).depart m.index o).departed
      = insertResult { index := m.index, outcome := o, own := m.own } p.departed := by
  have found : member? (probedPass g m p) m.index = some (probedMember g m) :=
    member?_of_head (m := probedMember g m) (l := []) rfl
  show insertResult { index := m.index, outcome := o, own :=
    ((member? (probedPass g m p) m.index).map (·.own)).getD 0 } p.departed = _
  rw [found]
  rfl

theorem decideProbe_identified {g : Signature} {w : Window} {m : Member} {c : Nat} (usable : g.usable = true)
    (one : candidates s g.value = [c]) : decideProbe (probedMember (some g) m) (probed (some g) w m s)
      = endPass .complete [] (identified (some g) c w m s) := by
  have chosen : (if g.usable then candidates s g.value else []) = [c] := by rw [if_pos usable, one]
  show (match (if g.usable then candidates s g.value else []) with
    | [c] => _
    | _ => _) = _
  rw [chosen]
  rfl

end Sys2Proof.Machine
end

section
open Sys2Proof Sys2Proof.Machine

/-- Settles O37: the window's report gives the probe its signature, and `decideProbe` goes by its candidates. -/
theorem probeIsIdentifiedOrRetired : Obligations.ProbeIsIdentifiedOrRetired := by
  unfold Obligations.ProbeIsIdentifiedOrRetired
  intro w m s room drain unaborted probe preRinse members own goesOn unsigned list u ends rejected
  have reported : u = afterWindow (probed (if w.inspected then signatureOf w else none) w m s) := by
    rw [← takeReport_probe probe preRinse own goesOn, ← endTurn_probe members unsigned list]
  rw [afterWindow_probe _ probe] at reported
  have retires {code : Code} {g : Option Signature} (persistent : code.outcome = .persistent)
      (isEnd : u = endPass .allRetired [] (retire true code m.index (probed g w m s))) :
      ends .allRetired (.retired code) rejected := by
    obtain ⟨p, d, retired, number, departed⟩ := retire_probe (s := s) (w := w) g persistent goesOn
    rw [retired] at isEnd
    obtain ⟨pass, faults, histories, window, table, r, rest, fifo, outcome, isNumber, isMembers, which⟩ :=
      endPass_fields .allRetired (p := p) (d := d) (table := s.job.table.map (fun y => if y.index = m.index then
          { y with state := .rejected, keyMark := .none } else y)) room
    rw [← isEnd] at pass faults histories window table fifo
    exact ⟨pass, faults, histories, window, table, r, rest, fifo, outcome, isNumber.trans number, isMembers.trans departed,
      which⟩
  refine ⟨fun uninspected => ?_, fun a b inspected ha hb => ?_⟩
  · rw [uninspected] at reported
    exact retires (g := none) rfl reported
  · intro g found usable
    let x : Signature := { value := g, usable := decide (w.drained ≠ 0) && !a.sat && !b.sat }
    have signature : signatureOf w = some x := by rw [signatureOf, ha, hb]; rfl
    have isUsable : x.usable = true ↔ usable := by
      show (decide (w.drained ≠ 0) && !a.sat && !b.sat) = true ↔ _
      simp only [Bool.and_eq_true, decide_eq_true_eq, Bool.not_eq_true', usable, and_assoc]
    have isFound (c : Nat) : c ∈ candidates s x.value ↔ found c := mem_candidates g c
    rw [inspected, if_pos rfl, signature] at reported
    refine ⟨fun c canUse isC only => ?_, fun unresolved => ?_⟩
    · have one := candidates_eq_singleton ((isFound c).mpr isC) (fun d hd => only d ((isFound d).mp hd))
      rw [decideProbe_identified (isUsable.mpr canUse) one] at reported
      obtain ⟨pass, faults, histories, window, table, r, rest, fifo, outcome, number, departed, which⟩ :=
        endPass_fields .complete (s := s) (p := (probedPass (some x) m s.pass).depart m.index (.identified c))
          (d := { s.diu with window := none, histories := appendHistory w s.diu.histories })
          (table := s.job.table.map (fun y => if y.index = m.index then identifiedRecord s c y else y)) room
      unfold identified at reported
      rw [← reported] at pass faults histories window table fifo
      exact ⟨pass, faults, histories, window, table, r, rest, fifo, outcome, number,
        departed.trans (departed_probed _ _ _ _), which⟩
    · refine retires rfl (reported.trans (decideProbe_unresolved (fun c chosen => ?_)))
      by_cases canUse : usable
      · rw [if_pos (isUsable.mpr canUse)] at chosen
        obtain h | h | ⟨d, e, hd, he, differ⟩ := unresolved
        · exact h canUse
        · exact h c ((isFound c).mp (by rw [chosen]; exact List.mem_singleton_self c))
        · have isC (y : Nat) (hy : found y) : y = c := by
            have := (isFound y).mpr hy
            rwa [chosen, List.mem_singleton] at this
          exact differ ((isC d hd).trans (isC e he).symm)
      · rw [if_neg (fun h => canUse (isUsable.mp h))] at chosen
        cases chosen

end

section
/-! SUPPORT. A member-scope fault of a member that goes on (R81, R89, R92). -/

namespace Sys2Proof.Machine

variable {s t u : State}

/-- The record of a member-scope fault of the pass engine. -/
def memberFaultRec (k : FaultKind) (i : Nat) (s : State) : FaultRec where
  kind := k
  source := .pass
  compartment := some i
  stage := some s.pass.stage
  time := s.job.clock

/-- A member-scope fault that fills the empty record: the record and the yard line interface change alone. -/
theorem raiseFault_member (k : FaultKind) (i : Nat) (ofPass : k.source = .pass) (empty : s.faults.record = none)
    (room : FifoBounded s) : ∃ l : YardLine, raiseFault k (some i) (some s.pass.stage) s
      = (s.setFaults { s.faults with record := some (memberFaultRec k i s) }).setLine l
      ∧ l.fifo = joined [.fault (memberFaultRec k i s)] s ∧ l.bus = s.line.bus := by
  have isF : faultRecOf k (some i) (some s.pass.stage) s = memberFaultRec k i s := by
    rw [faultRecOf, ofPass]
    rfl
  have faults := raiseFault_empty k (some i) (some s.pass.stage) empty
  have fifo := raiseFault_empty_fifo k (some i) (some s.pass.stage) empty room
  obtain ⟨same, bus⟩ := raiseFault_rest k (some i) (some s.pass.stage) s
  rw [isF] at faults fifo
  rw [faults] at same
  exact ⟨_, same, fifo, bus⟩

theorem memberFault_of_going {k : FaultKind} {i : Nat} {m : Member} (atWindowEnd : Bool)
    (unaborted : s.pass.abortCode = none) (hm : member? s.pass i = some m) (goesOn : m.retiring = none) :
    memberFault atWindowEnd k i s = if filtered s.pass.tolerance (memberFaultClass k) = true then
        countOwn i (raiseFault k (some i) (some s.pass.stage) s)
      else retire atWindowEnd k.code i (raiseFault k (some i) (some s.pass.stage) s) := by
  unfold memberFault
  dsimp only
  rw [if_neg (by simp [aborting, unaborted]), hm]
  exact if_neg (by simp [goesOn])

/-- A compartment of another index that is not terminal keeps the job open when a member leaves. -/
theorem incomplete_without {code : Code} {m : Member} {late : Late}
    (other : ∃ x ∈ s.job.table, x.index ≠ m.index ∧ terminal x = false) : ¬ JobComplete (without code m late s) := by
  obtain ⟨x, mem, index, running⟩ := other
  rintro ⟨-, all⟩
  have := List.all_eq_true.mp all x (mem_updTable_of_other mem index)
  rw [running] at this
  cases this

/-! ## Verification (R137) -/

theorem takeVerdict_unverified {w : Window} {m : Member} (i : Nat) (notProbe : s.pass.probe = false)
    (preRinse : (stageOf s.pass).kind = .preRinse) (h : w.inspected = false ∨ m.verify = false) :
    takeVerdict i m w s = s := by
  unfold takeVerdict
  obtain h | h := h
  · simp only [h, Bool.false_eq_true, if_false]
  · simp only [preRinse, notProbe, h, Bool.false_eq_true, if_false, Bool.false_and, ite_self]

theorem takeVerdict_verified {w : Window} {m : Member} (i : Nat) (notProbe : s.pass.probe = false)
    (preRinse : (stageOf s.pass).kind = .preRinse) (both : (stageOf s.pass).inspection = .both)
    (inspected : w.inspected = true) (verify : m.verify = true) : takeVerdict i m w s = verifyClass i w s := by
  simp only [takeVerdict, inspected, if_true, preRinse, notProbe, verify, both, Bool.false_eq_true, if_false, decide_true,
    Bool.and_self]

theorem verifyClass_eq {i : Nat} {w : Window} {g : Signature} {y : Compartment} (signature : signatureOf w = some g)
    (found : compartment? s i = some y) : verifyClass i w s
      = if g.usable = true ∧ inSignature s y.lastClass g.value = false then memberFault true .classMismatch i (clearVerify i s)
        else clearVerify i s := by
  have same : inSignature (clearVerify i s) = inSignature s := rfl
  unfold verifyClass
  rw [signature]
  dsimp only
  rw [found, Option.map_some, Option.getD_some]
  simp only [Bool.and_eq_true, Bool.not_eq_true']

theorem inSignature_iff {c g : Nat} {e : ClassEntry} (h : class? s c = some e) :
    inSignature s c g = true ↔ e.sigLow ≤ g ∧ g ≤ e.sigHigh := by simp [inSignature, h]

/-- CLASS_MISMATCH of a member at its window's end: recorded, and the member leaves REJECTED (R93, R137). -/
theorem classMismatch_leaves {i : Nat} {m : Member} (unaborted : s.pass.abortCode = none)
    (hm : member? s.pass i = some m) (goesOn : m.retiring = none) (empty : s.faults.record = none) (room : FifoBounded s)
    (other : ∃ x ∈ s.job.table, x.index ≠ i ∧ terminal x = false) :
    let u := memberFault true .classMismatch i (clearVerify i s)
    u.faults = { s.faults with record := some (memberFaultRec .classMismatch i s) }
    ∧ u.line.fifo = joined [.fault (memberFaultRec .classMismatch i s)] s
    ∧ u.pass.members = s.pass.members.filter (fun x => x.index != i)
    ∧ u.pass.departed = insertResult { index := i, outcome := .retired .classMismatch, own := m.own } s.pass.departed
    ∧ u.job.table = s.job.table.map (fun x => if x.index = i then { x with state := .rejected, keyMark := .none } else x)
    ∧ u.diu.histories = s.diu.histories.filter (fun h => h.index != i) := by
  let x : Member := { m with verify := false }
  have keeps : ∀ m : Member, ({ m with verify := false } : Member).index = m.index := fun _ => rfl
  have hx : member? (clearVerify i s).pass i = some x := member?_updMember (p := s.pass) keeps hm
  have members : (clearVerify i s).pass.members.filter (fun x => x.index != i)
      = s.pass.members.filter (fun x => x.index != i) := filter_updMember (p := s.pass) keeps
  obtain ⟨l, raised, fifo, -⟩ := raiseFault_member (s := clearVerify i s) .classMismatch i rfl empty room
  let v := ((clearVerify i s).setFaults { s.faults with record := some (memberFaultRec .classMismatch i s) }).setLine l
  have unfiltered : ¬ filtered (clearVerify i s).pass.tolerance (memberFaultClass .classMismatch) = true := by
    simp [filtered, memberFaultClass]
  have left : memberFault true .classMismatch i (clearVerify i s) = without .classMismatch x (notedLate .classMismatch x v) v := by
    rw [memberFault_of_going (s := clearVerify i s) true unaborted hx goesOn, if_neg unfiltered, raised]
    refine (retire_atWindowEnd (s := v) hx goesOn).trans ?_
    refine checkedAfter_of_incomplete (.inr (incomplete_without ?_))
    obtain rfl := member?_index hm
    exact other
  obtain rfl := member?_index hm
  rw [left]
  exact ⟨rfl, fifo, members, rfl, rfl, rfl⟩

end Sys2Proof.Machine
end

section
open Sys2Proof Sys2Proof.Machine

/-- Settles O38: the verdict on a member with the mark is `verifyClass`, which goes by the usability and the range. -/
theorem declaredClassIsVerified : Obligations.DeclaredClassIsVerified := by
  unfold Obligations.DeclaredClassIsVerified
  refine ⟨fun s b r record => ?_, fun w m y s drain unaborted notProbe preRinse both hm goesOn found => ?_⟩
  · unfold formMember
    rw [record]
    rfl
  · rw [takeReport_drained hm goesOn]
    refine ⟨fun h => takeVerdict_unverified _ notProbe preRinse h,
      fun a b e inspected verify ha hb he => ?_⟩
    intro g usable
    let x : Signature := { value := g, usable := decide (w.drained ≠ 0) && !a.sat && !b.sat }
    have signature : signatureOf w = some x := by rw [signatureOf, ha, hb]; rfl
    have isUsable : x.usable = true ↔ usable := by
      show (decide (w.drained ≠ 0) && !a.sat && !b.sat) = true ↔ _
      simp only [Bool.and_eq_true, decide_eq_true_eq, Bool.not_eq_true', usable, and_assoc]
    have range := inSignature_iff (g := g) he
    rw [takeVerdict_verified _ notProbe preRinse both inspected verify, verifyClass_eq signature found]
    refine ⟨fun h => if_neg ?_, fun canUse outside empty room other => ?_⟩
    · rintro ⟨canUse, outside⟩
      obtain h | h := h
      · exact h (isUsable.mp canUse)
      · exact absurd (range.mpr h) (ne_true_of_eq_false outside)
    · rw [if_pos ⟨isUsable.mpr canUse, eq_false_of_ne_true (fun h => by have := range.mp h; omega)⟩]
      exact classMismatch_leaves unaborted hm goesOn empty room other

end

section
/-! SUPPORT. Several members that retire at the end of a run (R75, R95, R96). -/

namespace Sys2Proof.Machine

variable {s t u v : State}

/-- A member other than the one that left is found as before. -/
theorem member?_without {code : Code} {m : Member} {late : Late} {i : Nat} (other : i ≠ m.index) :
    member? (without code m late s).pass i = member? s.pass i := by
  show (s.pass.members.filter (fun x => x.index != m.index)).find? (fun x => x.index == i) = _
  rw [List.find?_filter]
  refine List.find?_congr (fun x _ => ?_)
  by_cases own : x.index = i <;> simp [own, other]

/-- The pass without the members of a list: what has changed of it. -/
structure LeftBy (l : List Member) (p q : Pass) : Prop where
  rest : q = { p with members := q.members, drainList := q.drainList, departed := q.departed, late := q.late }
  members : q.members = p.members.filter (fun x => !l.any (fun m => m.index == x.index))
  departed : q.departed = l.foldl (fun r m =>
    insertResult { index := m.index, outcome := .retired .residuePersists, own := m.own } r) p.departed
  drainList : p.drainList = [] → q.drainList = []

theorem LeftBy.cons {m : Member} {l : List Member} {p q : Pass} (late : Late)
    (h : LeftBy l (passWithout .residuePersists m late p) q) : LeftBy (m :: l) p q where
  rest := by rw [h.rest]; rfl
  members := by
    rw [h.members]
    show (p.members.filter (fun x => x.index != m.index)).filter _ = _
    rw [List.filter_filter]
    refine List.filter_congr (fun x _ => ?_)
    rw [List.any_cons, Bool.not_or, Bool.and_comm, bne, BEq.comm]
  departed := h.departed
  drainList := fun none => h.drainList (by show p.drainList.filter _ = []; rw [none]; rfl)

/-- The record of a compartment that is rejected (R94). -/
def rejectedRecord (c : Compartment) : Compartment := { c with state := .rejected, keyMark := .none }

/-- The state without the members of a list, each gone RESIDUE_PERSISTS, the job held open by another compartment. -/
theorem retireAll_eq (l : List Member) (s : State) (distinct : (l.map (·.index)).Nodup)
    (here : ∀ m ∈ l, member? s.pass m.index = some m) (goOn : ∀ m ∈ l, m.retiring = none)
    (other : ∃ x ∈ s.job.table, (∀ m ∈ l, x.index ≠ m.index) ∧ terminal x = false) : ∃ p d,
    l.foldl (fun s m => retire true .residuePersists m.index s) s
      = { s with
          job := { s.job with table := l.foldl (fun table m => updTable m.index rejectedRecord table) s.job.table }
          pass := p, diu := d } ∧ LeftBy l s.pass p := by
  induction l generalizing s with
  | nil => exact ⟨s.pass, s.diu, rfl, rfl, by simp, rfl, id⟩
  | cons m l ih =>
    obtain ⟨notAgain, distinct'⟩ := List.nodup_cons.mp distinct
    have apart (y : Member) (hy : y ∈ l) : y.index ≠ m.index :=
      fun same => notAgain (List.mem_map.mpr ⟨y, hy, same⟩)
    let late := notedLate .residuePersists m s
    have open' : ∃ x ∈ s.job.table, x.index ≠ m.index ∧ terminal x = false := by
      obtain ⟨x, hx, apart, running⟩ := other
      exact ⟨x, hx, apart m List.mem_cons_self, running⟩
    have left : retire true .residuePersists m.index s = without .residuePersists m late s := by
      rw [retire_atWindowEnd (here m List.mem_cons_self) (goOn m List.mem_cons_self)]
      exact checkedAfter_of_incomplete (.inr (incomplete_without open'))
    obtain ⟨p, d, rest, leftBy⟩ := ih (without .residuePersists m late s) distinct'
      (fun y hy => (member?_without (apart y hy)).trans (here y (List.mem_cons_of_mem _ hy)))
      (fun y hy => goOn y (List.mem_cons_of_mem _ hy)) (by
        obtain ⟨x, hx, apart, running⟩ := other
        exact ⟨x, mem_updTable_of_other hx (apart m List.mem_cons_self),
          fun y hy => apart y (List.mem_cons_of_mem _ hy), running⟩)
    refine ⟨p, d, ?_, leftBy.cons late⟩
    rw [List.foldl_cons, left, rest]
    rfl

/-- The members of a pass that are not passed. -/
def unpassedMembers (p : Pass) : List Member := p.members.filter (fun m => !m.passed)

theorem retireUnpassed_eq_foldl (s : State) : retireUnpassed s
    = (unpassedMembers s.pass).foldl (fun s m => retire true .residuePersists m.index s) s := by
  rw [unpassedMembers, List.foldl_filter]
  unfold retireUnpassed
  congr 1
  funext s m
  cases m.passed <;> rfl

theorem member?_of_mem {p : Pass} (distinct : (p.members.map (·.index)).Nodup) {m : Member} (hm : m ∈ p.members) :
    member? p m.index = some m := by
  cases found : member? p m.index with
  | none => exact absurd (List.find?_eq_none.mp found m hm) (by simp)
  | some d =>
    have same : d.index = m.index := member?_index found
    rw [List.inj_on_of_nodup_map distinct (List.mem_of_find?_eq_some found) hm same]

/-- Without the unpassed members the passed ones remain. -/
theorem passed_remain {p : Pass} (distinct : (p.members.map (·.index)).Nodup) :
    p.members.filter (fun x => !(unpassedMembers p).any (fun m => m.index == x.index)) = p.members.filter (·.passed) := by
  refine List.filter_congr (fun x hx => ?_)
  cases passed : x.passed with
  | false =>
    have mem : x ∈ unpassedMembers p := List.mem_filter.mpr ⟨hx, by simp [passed]⟩
    have any : (unpassedMembers p).any (fun m => m.index == x.index) = true :=
      List.any_eq_true.mpr ⟨x, mem, by simp⟩
    rw [any]
    rfl
  | true =>
    have none : (unpassedMembers p).any (fun m => m.index == x.index) = false := by
      rw [List.any_eq_false]
      intro m hm same
      obtain ⟨hm, unpassed⟩ := List.mem_filter.mp hm
      rw [List.inj_on_of_nodup_map distinct hm hx (beq_iff_eq.mp same), passed] at unpassed
      cases unpassed
    rw [none]
    rfl

/-- The table with the compartments of a list of members rejected. -/
def rejectedTable (l : List Member) (table : List Compartment) : List Compartment :=
  table.map (fun x => if l.any (fun m => m.index == x.index) = true then { x with state := .rejected, keyMark := .none }
    else x)

theorem foldl_rejected {l : List Member} (distinct : (l.map (·.index)).Nodup) (table : List Compartment) :
    l.foldl (fun table m => updTable m.index rejectedRecord table) table = rejectedTable l table := by
  rw [foldl_updTable (fun _ => rejectedRecord) (fun _ _ => rfl) distinct]
  refine List.map_congr_left (fun x _ => ?_)
  cases found : l.find? (fun m => m.index == x.index) with
  | none =>
    have none : l.any (fun m => m.index == x.index) = false := by
      rw [List.any_eq_false]
      exact List.find?_eq_none.mp found
    rw [if_neg (ne_true_of_eq_false none)]
  | some m =>
    have any : l.any (fun m => m.index == x.index) = true :=
      List.any_eq_true.mpr ⟨m, List.mem_of_find?_eq_some found, List.find?_some (p := fun m : Member => m.index == x.index) found⟩
    rw [if_pos any]
    rfl

/-- A compartment that is not terminal after the rejections is no rejected one. -/
theorem running_of_rejectedTable {l : List Member} {table : List Compartment}
    (h : ∃ x ∈ rejectedTable l table, terminal x = false) :
    ∃ x ∈ table, (∀ m ∈ l, x.index ≠ m.index) ∧ terminal x = false := by
  obtain ⟨x, hx, running⟩ := h
  obtain ⟨y, hy, rfl⟩ := List.mem_map.mp hx
  by_cases any : l.any (fun m => m.index == y.index) = true
  · rw [if_pos any] at running
    cases running
  · rw [if_neg any] at running
    refine ⟨y, hy, fun m hm same => any ?_, running⟩
    exact List.any_eq_true.mpr ⟨m, hm, by simp [same]⟩

/-- The unpassed members retire at the repeat limit (R75). -/
theorem retireUnpassed_eq (distinct : (s.pass.members.map (·.index)).Nodup)
    (goOn : ∀ m ∈ s.pass.members, m.retiring = none)
    (running : ∃ x ∈ rejectedTable (unpassedMembers s.pass) s.job.table, terminal x = false) : ∃ p d, retireUnpassed s
      = { s with
          job := { s.job with table := rejectedTable (unpassedMembers s.pass) s.job.table }, pass := p, diu := d }
      ∧ p = { s.pass with
          members := s.pass.members.filter (·.passed), drainList := p.drainList, departed := p.departed, late := p.late }
      ∧ p.departed = (unpassedMembers s.pass).foldl (fun r m =>
          insertResult { index := m.index, outcome := .retired .residuePersists, own := m.own } r) s.pass.departed := by
  have sub : (unpassedMembers s.pass).Sublist s.pass.members := List.filter_sublist
  have distinct' : ((unpassedMembers s.pass).map (·.index)).Nodup := distinct.sublist (sub.map _)
  obtain ⟨p, d, rest, leftBy⟩ := retireAll_eq (unpassedMembers s.pass) s distinct'
    (fun m hm => member?_of_mem distinct (sub.subset hm)) (fun m hm => goOn m (sub.subset hm))
    (running_of_rejectedTable running)
  rw [foldl_rejected distinct'] at rest
  refine ⟨p, d, (retireUnpassed_eq_foldl s).trans rest, ?_, leftBy.departed⟩
  rw [← passed_remain distinct, ← leftBy.members]
  exact leftBy.rest

end Sys2Proof.Machine
end

section
/-! SUPPORT. The end of a FINAL_RINSE run (R62, R75, R82, R98). -/

namespace Sys2Proof.Machine

variable {s t u v : State}

theorem afterWindow_listEnded (list : s.pass.drainList = []) (some : s.pass.members ≠ []) :
    afterWindow s = endStageRun s := by
  unfold afterWindow
  rw [if_neg some, if_pos list]

theorem endStageRun_finalRinse (notProbe : s.pass.probe = false) (final : (stageOf s.pass).kind = .finalRinse) :
    endStageRun s = if s.pass.members.all (·.passed) = true then advanceOrCommit s
      else if s.pass.repeats < (stageOf s.pass).repeatLimit then goOn .again s
      else if (retireUnpassed s).pass.members = [] then endPass .allRetired [] (retireUnpassed s)
      else advanceOrCommit (retireUnpassed s) := by
  unfold endStageRun
  rw [notProbe]
  dsimp only
  rw [if_neg (not_not.mpr final)]

theorem unpassed_nil_iff (p : Pass) : p.members.filter (fun m => !m.passed) = [] ↔ p.members.all (·.passed) = true := by
  rw [List.filter_eq_nil_iff, List.all_eq_true]
  simp

/-- A HOLD that is pending takes the step that was next (R75). -/
theorem goOn_held (n : NextStep) (held : s.pass.pendingHold = true) : goOn n s = s.setPass { s.pass with
    phase := .held, resumeAt := some .next, nextStep := some n, pendingHold := false, dest := none, runDown := none,
    fromSpray := false, holdTimer := some ((recipeOf s.pass).holdLimit * 1000) } := if_pos held

/-- The following stage, a DRY, is entered. -/
theorem advance_dry {g : Stage} (unheld : s.pass.pendingHold = false)
    (next : (recipeOf s.pass).stages[s.pass.stage]? = some g) (dry : g.kind = .dry) :
    advanceOrCommit s = enterDry (atStage (s.pass.stage + 1) s)
    ∧ (enterDry (atStage (s.pass.stage + 1) s)).pass.dryLeft = g.timeLimit * 1000 := by
  obtain ⟨begun, isStage⟩ := beginStep_dry next dry
  refine ⟨?_, congrArg (fun x : Stage => x.timeLimit * 1000) isStage⟩
  rw [advanceOrCommit_advances next, goOn_begins .following unheld, begun]

/-- What the end of a pass queues in its event, where what led to it has queued nothing. -/
theorem PassEnded.reports {o : PassOutcome} {certs : List Notice} {j : JobUnit} {p : Pass} {d : Diu}
    (h : PassEnded o certs t u) (ht : t = { s with job := j, pass := p, diu := d }) (record : j.record = s.job.record) :
    u.pass = Pass.idle ∧ u.faults = s.faults
    ∧ ∃ rest, u.line.fifo = joined (.passResult (passResultOf o t) :: certs ++ rest) s
      ∧ (rest = [] ∨ rest = [.jobReport (jobNumber s) .complete] ∨ rest = [.jobReport (jobNumber s) .released])
      ∧ (j.state = .opened → j.table.all terminal = false → rest = [] ∧ u.job = j) := by
  obtain ⟨isEnd, -, -, rest, fifo, which, exactly⟩ := h
  have number : jobNumber t = jobNumber s := by rw [ht, jobNumber, jobNumber, record]
  have line : t.line = s.line := by rw [ht]
  have job : t.job = j := by rw [ht]
  have faults : t.faults = s.faults := by rw [ht]
  rw [number] at which
  rw [job] at exactly
  refine ⟨by rw [isEnd]; rfl, by rw [isEnd]; exact faults, rest, ?_, which, exactly⟩
  rw [fifo, joined, joined, line]

end Sys2Proof.Machine
end

section
open Sys2Proof Sys2Proof.Machine

/-- Settles O42: by the members passed, the repeats remaining and the pending HOLD. -/
theorem finalRinseRunEnds : Obligations.FinalRinseRunEnds := by
  unfold Obligations.FinalRinseRunEnds
  intro s drain list some notProbe unaborted final distinct goOn' room u passed unpassed atLimit rejected
  have ended : u = _ := (afterWindow_listEnded list some).trans (endStageRun_finalRinse notProbe final)
  have isUnpassed : unpassed = [] ↔ s.pass.members.all (·.passed) = true := unpassed_nil_iff s.pass
  have advances (h : unpassed = []) : u = advanceOrCommit s := ended.trans (if_pos (isUnpassed.mp h))
  have again (h : unpassed ≠ []) (below : ¬ atLimit) : u = goOn .again s :=
    ended.trans ((if_neg (fun all => h (isUnpassed.mpr all))).trans (if_pos (not_le.mp below)))
  have allGoOn : allRetiring s.pass = false := by
    obtain ⟨m, l, members⟩ := List.exists_cons_of_ne_nil some
    simp [allRetiring, members, goOn' m (by rw [members]; exact List.mem_cons_self)]
  have limited (h : unpassed ≠ []) (limit : atLimit) : u
      = if (retireUnpassed s).pass.members = [] then endPass .allRetired [] (retireUnpassed s)
        else advanceOrCommit (retireUnpassed s) :=
    ended.trans ((if_neg (fun all => h (isUnpassed.mpr all))).trans (if_neg (not_lt.mpr limit)))
  refine ⟨fun g none next dry => ⟨fun unheld => ?_, fun held => ?_⟩, fun none last => ?_,
    fun some' below unheld seated c t loopC loopT => ?_, fun some' below held => ?_,
    fun g some' limit remain unheld next dry running => ?_, fun limit none opened running => ?_⟩
  · obtain ⟨effect, dryLeft⟩ := advance_dry unheld next dry
    rw [advances none, effect]
    exact ⟨rfl, rfl, dryLeft, rfl, rfl, rfl, rfl, rfl, rfl⟩
  · rw [advances none, advanceOrCommit_advances next]
    exact goOn_held _ held
  · let w := s.pass.members.foldl (fun s m => commitMember m s) s
    obtain ⟨p, table, rest, number⟩ := commitMembers_frame s.pass.members s
    have isW : w = { s with job := { s.job with table := table }, pass := p } := rest
    have isEnd : PassEnded .complete (s.pass.members.map (fun m => certificateNotice m s)) w
        (endPass .complete (s.pass.members.map (fun m => certificateNotice m s)) w) :=
      endPass_ended _ _ (by rw [FifoBounded, isW]; exact room)
    obtain ⟨idle, -, more, fifo, which, -⟩ := isEnd.reports (s := s) isW rfl
    rw [advances none, advanceOrCommit_commits last, commitPass_eq some goOn']
    exact ⟨idle, _, more, fifo, rfl, which⟩
  · have begun : beginStep .again s = enterFlush s := rfl
    obtain ⟨d, entered, baseC, baseT, -, histories⟩ := enterFlush_eq seated some allGoOn c t loopC loopT
    rw [again some' below, goOn_begins _ unheld, begun, entered]
    exact ⟨rfl, rfl, rfl, if_pos final, rfl, rfl, baseC, baseT, histories, rfl, rfl, rfl⟩
  · rw [again some' below]
    exact goOn_held _ held
  · obtain ⟨p, d, left, rest, departed⟩ := retireUnpassed_eq distinct goOn' running
    let v : State := { s with job := { s.job with table := rejected }, pass := p, diu := d }
    have isV : retireUnpassed s = v := left
    have members : p.members = passed := by rw [rest]
    have stage : p.stage = s.pass.stage := by rw [rest]
    have recipe : recipeOf p = recipeOf s.pass := by rw [rest]; rfl
    have unheld' : p.pendingHold = false := by rw [rest]; exact unheld
    obtain ⟨effect, -⟩ := advance_dry (s := v) unheld' (by rw [recipe, stage]; exact next) dry
    have isNext : u = enterDry (atStage (v.pass.stage + 1) v) := by
      rw [limited some' limit, isV, if_neg (by rw [members]; exact remain), effect]
    rw [isNext]
    exact ⟨rfl, congrArg (· + 1) stage, members, departed, rfl, rfl, rfl⟩
  · obtain ⟨p, d, left, rest, departed⟩ := retireUnpassed_eq distinct goOn' running
    let v : State := { s with job := { s.job with table := rejected }, pass := p, diu := d }
    have isV : retireUnpassed s = v := left
    have members : p.members = [] := by rw [rest]; exact none
    have number : p.number = s.pass.number := by rw [rest]
    have some' : unpassed ≠ [] := by
      intro all
      have := isUnpassed.mp all
      rw [List.filter_eq_nil_iff] at none
      obtain ⟨m, l, isList⟩ := List.exists_cons_of_ne_nil some
      exact none m (by rw [isList]; exact List.mem_cons_self)
        (List.all_eq_true.mp this m (by rw [isList]; exact List.mem_cons_self))
    have isNext : u = endPass .allRetired [] v := by rw [limited some' limit, isV, if_pos members]
    have isEnd : PassEnded .allRetired [] v (endPass .allRetired [] v) := endPass_ended _ _ room
    have notAll : rejected.all terminal = false := by
      obtain ⟨x, hx, open'⟩ := running
      exact List.all_eq_false.mpr ⟨x, hx, by simp [open']⟩
    obtain ⟨idle, faults, more, fifo, -, exactly⟩ := isEnd.reports (s := s) rfl rfl
    obtain ⟨rfl, job⟩ := exactly opened notAll
    rw [isNext]
    exact ⟨idle, job, faults, _, fifo, rfl, number, departed⟩

end

section
/-! SUPPORT. A sample in DRAIN (R73, R115 to R117). -/

namespace Sys2Proof.Machine

variable {s t u v : State}

/-! ## The window at its opening (R73, R8, R124) -/

theorem inspects_conductivity (r : Recipe) : inspects r .conductivity = true
    ↔ ∃ g ∈ r.stages, g.inspection = .cond ∨ g.inspection = .both := by
  rw [inspects, List.any_eq_true]
  simp only [names_conductivity, decide_eq_true_eq]

theorem inspects_turbidity (r : Recipe) : inspects r .turbidity = true
    ↔ ∃ g ∈ r.stages, g.inspection = .turb ∨ g.inspection = .both := by
  rw [inspects, List.any_eq_true]
  simp only [names_turbidity, decide_eq_true_eq]

/-- The window of a member that goes on is inspected where the stage inspects and the run is not skipped. -/
theorem inspectedFor_of_going {p : Pass} {i : Nat} {m : Member} (hm : member? p i = some m) (goesOn : m.retiring = none)
    (unskipped : p.skipped = false) : inspectedFor i p = decide ((stageOf p).inspection ≠ .none) := by
  simp [inspectedFor, hm, goesOn, unskipped]

/-- A channel is inspected in the window where the stage names it. -/
theorem freshFor_eq {named : Bool} {P : Prop} [Decidable P] {n : Inspection} (h : named = decide P) (inspects : P → n ≠ .none) :
    (if (decide (n ≠ .none) && named) = true then some freshChannel else none)
      = if P then some { acc := 0, peak := 0, sat := false } else none := by
  subst h
  by_cases holds : P
  · simp [holds, inspects holds, freshChannel]
  · simp [holds]

theorem paramsFor_eq {p : Pass} {i : Nat} {ch : Channel} {Q : Prop} (x : ChannelParams) {n : Inspection} [Decidable Q]
    (isInspected : inspectedFor i p = decide (n ≠ .none)) (named : inspects (recipeOf p) ch = true ↔ Q) :
    paramsFor i ch x p = if n ≠ .none ∧ p.probe = false ∧ Q then some x else none := by
  unfold paramsFor
  rw [isInspected]
  refine if_congr ?_ rfl rfl
  rw [Bool.and_eq_true, Bool.and_eq_true, decide_eq_true_eq, Bool.not_eq_true', named, and_assoc]

/-! ## The tick (R109, R116, R117) -/

/-- In DRAIN, with nothing late pending of a SPRAY, a sample's temperature leads to nothing. -/
theorem temperatureSample_inDrain (drain : s.pass.phase = .drain) (noLow : s.pass.late.low = none) :
    temperatureSample s = s := by
  unfold temperatureSample
  rw [if_pos (.inr drain), noLow]

/-- In DRAIN a sample with the named channels present goes to the window. -/
theorem diuTick_inDrain (forced : Option EndCause) (drain : s.pass.phase = .drain) (noLow : s.pass.late.low = none)
    (present : namedAbsent (sampleLoops s) = false) : diuTick forced s
      = windowTick forced (saturated s.diu.c.gain s.panel.loopC) (saturated s.diu.t.gain s.panel.loopT)
        (sampleLoops s) := by
  have phase : (sampleLoops s).pass.phase = .drain := drain
  unfold diuTick
  dsimp only
  rw [temperatureSample_inDrain phase noLow, sensorCheck_of_present present]
  congr 1
  exact if_neg (by simp [recording, phase])

theorem windowTick_ends {forced : Option EndCause} {satC satT : Bool} {w : Window} {e : EndCause}
    (drain : s.pass.phase = .drain) (window : s.diu.window = some w)
    (cause : (windowSample satC satT s w).endCause.or forced = some e) :
    windowTick forced satC satT s = endWindow (windowSample satC satT s w) e s := by
  unfold windowTick
  rw [window]
  dsimp only
  rw [if_pos drain, cause]

theorem windowTick_goesOn {forced : Option EndCause} {satC satT : Bool} {w : Window} (drain : s.pass.phase = .drain)
    (window : s.diu.window = some w) (cause : (windowSample satC satT s w).endCause.or forced = none) :
    windowTick forced satC satT s
      = s.setDiu { s.diu with window := some (windowSample satC satT s w) } := by
  unfold windowTick
  rw [window]
  dsimp only
  rw [if_pos drain, cause]

/-- A sample is saturated at gain 1 alone. -/
theorem saturated_eq (gain current : Nat) :
    saturated gain current = (decide (gain = 1) && decide (loopCount 1 current = 4095)) := by
  unfold saturated
  by_cases one : gain = 1
  · rw [one]
  · simp [one]

/-- A DIU_SAMPLE in DRAIN with the named channels present. -/
theorem exec_diuSample_inDrain {iC iT iTemp : Nat} (running : s.power = .running) (drain : s.pass.phase = .drain)
    (noLow : s.pass.late.low = none)
    (c : names (stageOf s.pass).inspection .conductivity = true → (sampled iC iT iTemp s).diu.c.present = true)
    (t : names (stageOf s.pass).inspection .turbidity = true → (sampled iC iT iTemp s).diu.t.present = true) :
    exec (.diuSample iC iT iTemp) s = .next (conclude s (windowTick none (saturated s.diu.c.gain iC)
      (saturated s.diu.t.gain iT) (sampled iC iT iTemp s))) := by
  have present : namedAbsent (sampled iC iT iTemp s) = false := by
    refine namedAbsent_of_named (fun h => c ?_) (fun h => t ?_)
    · rw [names_conductivity]
      exact decide_eq_true h
    · rw [names_turbidity]
      exact decide_eq_true h
  rw [exec_diuSample iC iT iTemp running, diuTick_inDrain (s := takeLoops iC iT iTemp s) none drain noLow present]
  rfl

end Sys2Proof.Machine
end

section
open Sys2Proof Sys2Proof.Machine

/-- Settles O34: the window at its opening field by field, and one sample, which goes on or ends it. -/
theorem inspectedWindowTakesItsSamples : Obligations.InspectedWindowTakesItsSamples := by
  unfold Obligations.InspectedWindowTakesItsSamples
  refine ⟨fun i m s hm goesOn unskipped => ?_, fun iC iT iTemp s w running drain unaborted noLow window => ?_⟩
  · intro n fresh
    have isInspected := inspectedFor_of_going hm goesOn unskipped
    unfold windowFor
    rw [paramsFor_eq _ isInspected (inspects_conductivity _), paramsFor_eq _ isInspected (inspects_turbidity _),
      isInspected, freshFor_eq (names_conductivity _) (by rintro (h | h) <;> rw [h] <;> exact nofun),
      freshFor_eq (names_turbidity _) (by rintro (h | h) <;> rw [h] <;> exact nofun)]
    rfl
  · intro after c t eC eT x ended u
    have taken := exec_diuSample_inDrain running drain noLow c t
    have isX : windowSample (saturated s.diu.c.gain iC) (saturated s.diu.t.gain iT) (sampled iC iT iTemp s) w = x := by
      rw [saturated_eq, saturated_eq]
      rfl
    have cause : x.endCause.or none = ended := Option.or_none
    refine ⟨fun goesOn => ?_, fun e ends => ?_⟩
    · rw [windowTick_goesOn (s := sampled iC iT iTemp s) drain window (by rw [isX, cause, goesOn]), isX] at taken
      let v := (sampled iC iT iTemp s).setDiu { (sampled iC iT iTemp s).diu with window := some x }
      have phase : v.pass.phase = .drain := drain
      have k := conclude_phase s v (by rw [phase]; exact nofun) (by rw [phase]; exact nofun)
      exact ⟨_, taken, k.diu, k.panel, k.pass, k.job, k.fill, k.faults, k.sameShare rfl, k.sameModule (.refl s),
        k.sending rfl⟩
    · rw [windowTick_ends (s := sampled iC iT iTemp s) drain window (by rw [isX, cause, ends]), isX] at taken
      exact taken

end

section
/-! SUPPORT. The end of a window with a further member on the drain list (R73, R75, R82, R96, R122, R126). -/

namespace Sys2Proof.Machine

variable {s t u v r : State}

/-- The pass after the drain turn of member `i`. -/
def turnedPass (i : Nat) (p : Pass) : Pass :=
  { p with
    members := p.members.map (fun m => if m.index = i then { m with wetted := false } else m)
    draining := none, drainList := p.drainList.filter (fun j => j != i) }

/-- The state after the window `w` has closed and its member's turn is over. -/
def turned (w : Window) (s : State) : State :=
  (s.setDiu { s.diu with window := none, histories := appendHistory w s.diu.histories }).setPass
    (turnedPass w.member s.pass)

theorem endTurn_closeRecord (w : Window) (s : State) : endTurn w.member (closeRecord w s) = turned w s := rfl

/-- `t` has come from `s` by changes of the pass and the DIU alone. -/
structure Kept (s t : State) : Prop where
  job : t.job = s.job
  fill : t.fill = s.fill
  faults : t.faults = s.faults
  panel : t.panel = s.panel
  share : t.share = s.share
  line : t.line = s.line
  module : SameModule s t

theorem Kept.trans (h : Kept s t) (k : Kept t u) : Kept s u :=
  ⟨k.job.trans h.job, k.fill.trans h.fill, k.faults.trans h.faults, k.panel.trans h.panel, k.share.trans h.share,
    k.line.trans h.line, SameModule.trans h.module k.module⟩

theorem setDiu_kept (s : State) (d : Diu) : Kept s (s.setDiu d) := ⟨rfl, rfl, rfl, rfl, rfl, rfl, .refl s⟩

theorem setPass_kept (s : State) (p : Pass) : Kept s (s.setPass p) := ⟨rfl, rfl, rfl, rfl, rfl, rfl, .refl s⟩

theorem sampleLoops_kept (s : State) : Kept s (sampleLoops s) := setDiu_kept _ _

theorem turned_kept (w : Window) (s : State) : Kept s (turned w s) := (setDiu_kept _ _).trans (setPass_kept _ _)

theorem openedDrain_kept (i : Nat) (s : State) : Kept s (openedDrain i s) := (setPass_kept _ _).trans (setDiu_kept _ _)

theorem enterHeld_kept (s : State) : Kept s (enterHeld s) := setPass_kept _ _

/-- The blocks that are as they were at the end of the event. -/
theorem Kept.concluded (h : Kept s u) (k : Concluded u t) : t.job = s.job ∧ t.fill = s.fill ∧ t.faults = s.faults
    ∧ t.panel = s.panel ∧ SameShare s t ∧ SameModule s t ∧ Sending s.line.fifo s t :=
  ⟨k.job.trans h.job, k.fill.trans h.fill, k.faults.trans h.faults, k.panel.trans h.panel, k.sameShare h.share,
    k.sameModule h.module, h.line ▸ k.sending (congrArg YardLine.bus h.line)⟩

theorem endWindow_eq (w : Window) (e : EndCause) (s : State) :
    endWindow w e s = afterWindow (takeReport w e (turned w s)) := rfl

theorem member?_turned {w : Window} {m : Member} (hm : member? s.pass w.member = some m) :
    member? (turned w s).pass w.member = some { m with wetted := false } :=
  member?_updMember (p := s.pass) (f := fun m => { m with wetted := false }) (fun _ => rfl) hm

/-- The next member stands first in the drain list after the turn of the first. -/
theorem drainList_turned {i j : Nat} {rest : List Nat} {p : Pass} (list : p.drainList = i :: j :: rest)
    (distinct : (i :: j :: rest).Nodup) : (turnedPass i p).drainList = j :: rest := by
  obtain ⟨notAgain, -⟩ := List.nodup_cons.mp distinct
  show p.drainList.filter (fun j => j != i) = _
  rw [list, List.filter_cons_of_neg (by simp)]
  exact List.filter_eq_self.mpr (fun x hx => by
    have : x ≠ i := fun same => notAgain (same ▸ hx)
    simpa using this)

/-- With a further member on the list and no HOLD that is taken, its window opens (R73). -/
theorem afterWindow_opens {j : Nat} {rest : List Nat} (drain : s.pass.phase = .drain)
    (list : s.pass.drainList = j :: rest) (nonempty : s.pass.members ≠ [])
    (unheld : ¬ (s.pass.pendingHold = true ∧ allRetiring s.pass = false)) (present : namedAbsent s = false) :
    afterWindow s = openedDrain j s := by
  unfold afterWindow
  rw [if_neg nonempty, if_neg (by rw [list]; exact List.cons_ne_nil _ _), if_neg unheld]
  exact openNext_eq drain list (.inl present)

/-- A pending HOLD is taken between two windows, the drain list kept (R82). -/
theorem afterWindow_held {j : Nat} {rest : List Nat} (list : s.pass.drainList = j :: rest)
    (nonempty : s.pass.members ≠ []) (held : s.pass.pendingHold = true) (goesOn : allRetiring s.pass = false) :
    afterWindow s = enterHeld (s.setPass { s.pass with resumeAt := some .drain }) := by
  unfold afterWindow
  rw [if_neg nonempty, if_neg (by rw [list]; exact List.cons_ne_nil _ _), if_pos ⟨held, goesOn⟩]

/-- With a member that goes on not all are retiring. -/
theorem goesOn_of_member {p : Pass} {i : Nat} {m : Member} (hm : member? p i = some m) (goesOn : m.retiring = none) :
    p.members ≠ [] ∧ allRetiring p = false := by
  have mem := List.mem_of_find?_eq_some hm
  refine ⟨List.ne_nil_of_mem mem, List.all_eq_false.mpr ⟨m, mem, by simp [goesOn]⟩⟩

/-- The command's window ends DRAINED once water has flowed (R117, log 22). -/
theorem endCause_forced {w : Window} {eC eT : Nat} {satC satT : Bool} (flowed : w.firstPulse = true ∨ 0 < w.pulses)
    (notLast : w.sample + 1 ≠ w.maxSamples) :
    (w.takeSample eC eT satC satT).endCause.or (some (forcedCause w)) = some .drained := by
  have forced : forcedCause w = .drained := by
    unfold forcedCause
    obtain h | h := flowed <;> simp [h]
  have first : (w.takeSample eC eT satC satT).firstPulse = true := by
    obtain h | h := flowed <;> simp [Window.takeSample, h]
  have sample : (w.takeSample eC eT satC satT).sample = w.sample + 1 := rfl
  have max : (w.takeSample eC eT satC satT).maxSamples = w.maxSamples := rfl
  rw [forced, Window.endCause, first, sample, max, if_neg (c := w.sample + 1 = 40 ∧ _) (by simp), if_neg notLast]
  split <;> rfl

theorem exec_drainWindowEnd (i : Nat) (running : s.power = .running) :
    exec (.drainWindowEnd i) s = .next (conclude s (endWindowOf i s)) := by
  unfold exec execDrainWindowEnd
  exact event_running _ s running

theorem takeVerdict_uninspected {w : Window} (i : Nat) (m : Member) (uninspected : w.inspected = false) :
    takeVerdict i m w s = s := if_neg (ne_true_of_eq_false uninspected)

theorem namedAbsent_of_none (none : (stageOf s.pass).inspection = .none) : namedAbsent s = false := by
  simp [namedAbsent, none, names]

end Sys2Proof.Machine
end

section
open Sys2Proof Sys2Proof.Machine

/-- Settles O36: the window ends DRAINED, its report changes nothing, and the next window opens or the HOLD is taken. -/
theorem drainWindowEndGoesOn : Obligations.DrainWindowEndGoesOn := by
  unfold Obligations.DrainWindowEndGoesOn
  intro i j rest s w m running drain window own uninspected unaborted noLow flowed notLast uninspecting list distinct hm
    goesOn
  subst own
  let v := sampleLoops s
  let x := windowSample (saturated s.diu.c.gain s.panel.loopC) (saturated s.diu.t.gain s.panel.loopT) v w
  have present : namedAbsent v = false := namedAbsent_of_none (s := v) uninspecting
  have ended : endWindowOf w.member s = endWindow x .drained v := by
    have begun : endWindowOf w.member s = diuTick (some (forcedCause w)) s := by
      unfold endWindowOf
      rw [window]
      exact if_pos ⟨rfl, drain⟩
    rw [begun, diuTick_inDrain _ drain noLow present]
    exact windowTick_ends (s := v) drain window (endCause_forced flowed notLast)
  have hm' : member? (turned x v).pass x.member = some { m with wetted := false } := member?_turned (s := v) (w := x) hm
  have reported : takeReport x .drained (turned x v) = turned x v := by
    rw [takeReport_drained hm' goesOn]
    exact takeVerdict_uninspected _ _ uninspected
  have list' : (turned x v).pass.drainList = j :: rest := drainList_turned list distinct
  obtain ⟨some', notAll⟩ := goesOn_of_member hm' goesOn
  have kept : Kept s (turned x v) := (sampleLoops_kept s).trans (turned_kept x v)
  have taken := exec_drainWindowEnd w.member running
  rw [ended, endWindow_eq, reported] at taken
  by_cases held : s.pass.pendingHold = true
  · rw [afterWindow_held list' some' held notAll] at taken
    have k := conclude_phase s (enterHeld ((turned x v).setPass { (turned x v).pass with resumeAt := some .drain }))
      nofun nofun
    refine ⟨_, taken, ?_⟩
    rw [k.pass, k.diu]
    exact ⟨rfl, list', rfl, fun h => absurd held (ne_true_of_eq_false h), fun _ _ => ⟨rfl, rfl, rfl, rfl, rfl, rfl⟩,
      ((kept.trans (setPass_kept _ _)).trans (enterHeld_kept _)).concluded k⟩
  · rw [afterWindow_opens (s := turned x v) drain list' some' (fun h => held h.1) present] at taken
    have phase : (openedDrain j (turned x v)).pass.phase = .drain := drain
    have k : Concluded (openedDrain j (turned x v)) (conclude s (openedDrain j (turned x v))) :=
      conclude_phase s _ (by rw [phase]; exact nofun) (by rw [phase]; exact nofun)
    have inspected : inspectedFor j (turned x v).pass = false := by
      have none : (stageOf (turned x v).pass).inspection = .none := uninspecting
      simp [inspectedFor, none]
    refine ⟨_, taken, ?_⟩
    rw [k.pass, k.diu]
    refine ⟨rfl, list', rfl, fun _ => ⟨drain, rfl, rfl, ?_⟩, fun h => absurd h held,
      (kept.trans (openedDrain_kept _ _)).concluded k⟩
    show some (j, inspectedFor j (turned x v).pass, 0, 0, 4 * windowMaximum s.pass) = _
    rw [inspected]

end

section
/-! SUPPORT. What the report of a window changes, and the next window (R73, R92, R122, R123). -/

namespace Sys2Proof.Machine

variable {s t u v r : State}

/-- The member of an index and whether it is retiring. -/
def retiringOf (p : Pass) (j : Nat) : Option Bool := (member? p j).map (·.retiring.isSome)

/-- `r` has come from `v` by the report of another member's window: what the window of member `j` will be is as it
was. -/
structure Reported (j : Nat) (v r : State) : Prop where
  fill : r.fill = v.fill
  share : r.share = v.share
  module : SameModule v r
  diu : r.diu = { v.diu with histories := r.diu.histories }
  pass : r.pass = { v.pass with
    members := r.pass.members, drainList := r.pass.drainList, departed := r.pass.departed, late := r.pass.late }
  list : r.pass.drainList = v.pass.drainList
  next : retiringOf r.pass j = retiringOf v.pass j
  volume : volumeOf r j = volumeOf v j

variable {j : Nat}

theorem Reported.refl (j : Nat) (v : State) : Reported j v v := ⟨rfl, rfl, .refl v, rfl, rfl, rfl, rfl, rfl⟩

theorem Reported.trans (h : Reported j s v) (k : Reported j v r) : Reported j s r where
  fill := k.fill.trans h.fill
  share := k.share.trans h.share
  module := SameModule.trans h.module k.module
  diu := by rw [k.diu, h.diu]
  pass := by rw [k.pass, h.pass]
  list := k.list.trans h.list
  next := k.next.trans h.next
  volume := k.volume.trans h.volume

/-- A fault recorded. -/
theorem recorded_reported (f : Faults) (l : YardLine) (v : State) : Reported j v ((v.setFaults f).setLine l) :=
  ⟨rfl, rfl, .refl v, rfl, rfl, rfl, rfl, rfl⟩

theorem retiringOf_updMember {p : Pass} {i : Nat} {f : Member → Member} (keeps : ∀ m, (f m).index = m.index)
    (retiring : ∀ m, (f m).retiring = m.retiring) (j : Nat) : retiringOf (p.updMember i f) j = retiringOf p j := by
  have index : ((fun m : Member => m.index == j) ∘ fun m => if m.index = i then f m else m) = fun m => m.index == j := by
    funext m
    by_cases own : m.index = i <;> simp [own, keeps]
  have same : ((fun m : Member => m.retiring.isSome) ∘ fun m => if m.index = i then f m else m)
      = fun m => m.retiring.isSome := by
    funext m
    by_cases own : m.index = i <;> simp [own, retiring]
  show ((p.members.map (fun m => if m.index = i then f m else m)).find? (fun m => m.index == j)).map _ = _
  rw [List.find?_map, Option.map_map, index, same]
  rfl

theorem countOwn_reported (i : Nat) (v : State) : Reported j v (countOwn i v) :=
  ⟨rfl, rfl, .refl v, rfl, rfl, rfl, retiringOf_updMember (p := v.pass) (f := fun x => { x with own := x.own + 1 })
    (fun _ => rfl) (fun _ => rfl) j, rfl⟩

theorem volumeOf_updTable {i : Nat} {f : Compartment → Compartment} (keeps : ∀ c, (f c).index = c.index)
    (volume : ∀ c, (f c).volume = c.volume) (k : JobUnit) (j : Nat) :
    volumeOf (v.setJob { k with table := updTable i f v.job.table }) j = volumeOf v j := by
  have index : ((fun c : Compartment => c.index == j) ∘ fun c => if c.index = i then f c else c) = fun c => c.index == j := by
    funext c
    by_cases own : c.index = i <;> simp [own, keeps]
  have same : ((fun c : Compartment => c.volume) ∘ fun c => if c.index = i then f c else c) = fun c => c.volume := by
    funext c
    by_cases own : c.index = i <;> simp [own, volume]
  show (((v.job.table.map (fun c => if c.index = i then f c else c)).find? (fun c => c.index == j)).map _).getD 0 = _
  rw [List.find?_map, Option.map_map, index, same]
  rfl

theorem outcomeRecord_volume (o : CodeOutcome) (m : Member) (c : Compartment) :
    (outcomeRecord o m c).volume = c.volume := by cases o <;> rfl

/-- A member that leaves and is no more on the drain list. -/
theorem without_reported {code : Code} {m : Member} {late : Late} (v : State) (other : j ≠ m.index)
    (unlisted : m.index ∉ v.pass.drainList) : Reported j v (without code m late v) where
  fill := rfl
  share := rfl
  module := .refl v
  diu := rfl
  pass := rfl
  list := List.filter_eq_self.mpr (fun x hx => by
    have : x ≠ m.index := fun same => unlisted (same ▸ hx)
    simpa using this)
  next := congrArg (Option.map _) (member?_without other)
  volume := volumeOf_updTable (fun c => outcomeRecord_index _ m c) (fun c => outcomeRecord_volume _ m c) v.job j

/-! ## The next window (R73) -/

theorem inspectedFor_retiringOf (j : Nat) (p : Pass) : inspectedFor j p
    = (decide ((stageOf p).inspection ≠ .none) && !p.skipped && !(retiringOf p j).getD true) := rfl

/-- The window at its opening depends on the stage, the recipe, the marks of the pass, the member and the volume. -/
theorem windowFor_congr {s t : State} (recipe : t.pass.recipeData = s.pass.recipeData) (stage : t.pass.stage = s.pass.stage)
    (skipped : t.pass.skipped = s.pass.skipped) (probe : t.pass.probe = s.pass.probe)
    (next : retiringOf t.pass j = retiringOf s.pass j) (volume : volumeOf t j = volumeOf s j) :
    windowFor j t = windowFor j s := by
  have sameRecipe : recipeOf t.pass = recipeOf s.pass := by rw [recipeOf, recipeOf, recipe]
  have sameStage : stageOf t.pass = stageOf s.pass := by rw [stageOf, stageOf, sameRecipe, stage]
  have inspected : inspectedFor j t.pass = inspectedFor j s.pass := by
    rw [inspectedFor_retiringOf, inspectedFor_retiringOf, sameStage, skipped, next]
  have maximum : windowMaximum t.pass = windowMaximum s.pass := by
    rw [windowMaximum, windowMaximum, finalRinseOf, finalRinseOf, sameStage, sameRecipe]
  unfold windowFor paramsFor
  rw [inspected, sameStage, volume, sameRecipe, probe, maximum]

/-- What the next window's opening shows at the end of the event. -/
structure NextOpen (j : Nat) (v r t : State) : Prop where
  phase : t.pass.phase = .drain
  list : t.pass.drainList = v.pass.drainList
  draining : t.pass.draining = some j
  window : t.diu.window = some (windowFor j v)
  clock : t.diu.clock = 250
  stage : t.pass.stage = v.pass.stage
  members : t.pass.members = r.pass.members
  departed : t.pass.departed = r.pass.departed
  histories : t.diu.histories = r.diu.histories
  job : t.job = r.job
  faults : t.faults = r.faults
  fill : t.fill = v.fill
  share : SameShare v t
  module : SameModule v t
  line : Sending r.line.fifo r t

/-- After the report the next window opens (R73). -/
theorem Reported.opens {rest : List Nat} (h : Reported j v r) (s0 : State) (drain : v.pass.phase = .drain)
    (list : v.pass.drainList = j :: rest) (unheld : v.pass.pendingHold = false) (present : namedAbsent v = false)
    (here : (retiringOf v.pass j).isSome = true) : NextOpen j v r (conclude s0 (afterWindow r)) := by
  have drain' : r.pass.phase = .drain := by rw [h.pass]; exact drain
  have stage : r.pass.stage = v.pass.stage := by rw [h.pass]
  have recipe : r.pass.recipeData = v.pass.recipeData := by rw [h.pass]
  have sameStage : stageOf r.pass = stageOf v.pass := by rw [stageOf, stageOf, recipeOf, recipeOf, recipe, stage]
  have present' : namedAbsent r = false := by
    rw [namedAbsent, sameStage, h.diu]
    exact present
  have here' : (member? r.pass j).isSome = true := by
    have same := h.next
    rw [retiringOf] at same
    rw [← same, Option.isSome_map] at here
    exact here
  have nonempty : r.pass.members ≠ [] := by
    obtain ⟨m, hm⟩ := Option.isSome_iff_exists.mp here'
    exact List.ne_nil_of_mem (List.mem_of_find?_eq_some hm)
  have unheld' : ¬ (r.pass.pendingHold = true ∧ allRetiring r.pass = false) := by
    rintro ⟨held, -⟩
    rw [h.pass] at held
    exact nomatch unheld.symm.trans held
  rw [afterWindow_opens drain' (h.list.trans list) nonempty unheld' present']
  have phase : (openedDrain j r).pass.phase = .drain := drain'
  have k : Concluded (openedDrain j r) (conclude s0 (openedDrain j r)) :=
    conclude_phase s0 _ (by rw [phase]; exact nofun) (by rw [phase]; exact nofun)
  have window : windowFor j r = windowFor j v :=
    windowFor_congr recipe stage (by rw [h.pass]) (by rw [h.pass]) h.next h.volume
  obtain ⟨job, fill, faults, panel, share, module, line⟩ := (openedDrain_kept j r).concluded k
  refine ⟨?_, ?_, ?_, ?_, ?_, ?_, ?_, ?_, ?_, job, faults, fill.trans h.fill, ?_, SameModule.trans h.module module, line⟩
  · rw [k.pass]; exact phase
  · rw [k.pass]; exact h.list
  · rw [k.pass]; rfl
  · rw [k.diu, ← window]; rfl
  · rw [k.diu]; rfl
  · rw [k.pass]; exact stage
  · rw [k.pass]; rfl
  · rw [k.pass]; rfl
  · rw [k.diu]; rfl
  · exact k.sameShare h.share

end Sys2Proof.Machine
end

section
/-! SUPPORT. The reports of a WASH or a RINSE window (R92, R122, R123, R126). -/

namespace Sys2Proof.Machine

variable {s t u v r : State} {j : Nat}

/-- The report of a WASH or a RINSE window decides nothing. -/
theorem takeVerdict_rinsing {w : Window} (i : Nat) (m : Member)
    (h : (stageOf s.pass).kind = .wash ∨ (stageOf s.pass).kind = .rinse) : takeVerdict i m w s = s := by
  unfold takeVerdict
  split
  · obtain h | h := h <;> rw [h]
  · rfl

theorem takeReport_retiring {w : Window} {e : EndCause} {m : Member} {code : Code}
    (hm : member? s.pass w.member = some m) (retiring : m.retiring = some code) :
    takeReport w e s = leave w.member code s := by
  unfold takeReport
  rw [hm]
  dsimp only
  rw [retiring]

/-- After DRAIN_SLOW the member goes on. -/
theorem takeReport_slow_going {w : Window} {e : EndCause} {m y : Member} (hm : member? s.pass w.member = some m)
    (goesOn : m.retiring = none) (after : member? (slowCheck w.member e s).pass w.member = some y)
    (goesOn' : y.retiring = none) : takeReport w e s = takeVerdict w.member y w (slowCheck w.member e s) := by
  unfold takeReport
  rw [hm]
  dsimp only
  rw [goesOn]
  dsimp only
  rw [after]
  dsimp only
  rw [goesOn']
  rfl

/-- After DRAIN_SLOW the member is gone. -/
theorem takeReport_slow_gone {w : Window} {e : EndCause} {m : Member} (hm : member? s.pass w.member = some m)
    (goesOn : m.retiring = none) (after : member? (slowCheck w.member e s).pass w.member = none) :
    takeReport w e s = slowCheck w.member e s := by
  unfold takeReport
  rw [hm]
  dsimp only
  rw [goesOn]
  dsimp only
  rw [after]

theorem member?_without_own (code : Code) (m : Member) (late : Late) (s : State) :
    member? (without code m late s).pass m.index = none := by
  refine List.find?_eq_none.mpr (fun x hx => ?_)
  have := (List.mem_filter.mp hx).2
  simpa using this

/-- The report that raises DRAIN_SLOW, filtered (R81, R122). -/
theorem takeReport_slow_filtered {w : Window} {e : EndCause} {m : Member} {f : Faults} {l : YardLine}
    (kind : (stageOf s.pass).kind = .wash ∨ (stageOf s.pass).kind = .rinse) (hm : member? s.pass w.member = some m)
    (goesOn : m.retiring = none) (unaborted : s.pass.abortCode = none) (slow : e ≠ .drained)
    (tolerant : 1 ≤ s.pass.tolerance)
    (raised : raiseFault .drainSlow (some w.member) (some s.pass.stage) s = (s.setFaults f).setLine l) :
    takeReport w e s = countOwn w.member ((s.setFaults f).setLine l) := by
  have checked : slowCheck w.member e s = countOwn w.member ((s.setFaults f).setLine l) := by
    rw [slowCheck, if_neg slow, memberFault_of_going true unaborted hm goesOn, raised]
    exact if_pos (by simp [filtered, memberFaultClass, tolerant])
  have after : member? (slowCheck w.member e s).pass w.member = some { m with own := m.own + 1 } := by
    rw [checked]
    exact member?_updMember (p := s.pass) (f := fun x => { x with own := x.own + 1 }) (fun _ => rfl) hm
  rw [takeReport_slow_going hm goesOn after goesOn, checked]
  exact takeVerdict_rinsing _ _ kind

/-- The report that raises DRAIN_SLOW, not filtered: the member leaves (R81, R96). -/
theorem takeReport_slow_leaves {w : Window} {e : EndCause} {m : Member} {f : Faults} {l : YardLine}
    (hm : member? s.pass w.member = some m) (goesOn : m.retiring = none) (unaborted : s.pass.abortCode = none)
    (slow : e ≠ .drained) (intolerant : s.pass.tolerance = 0)
    (other : ∃ y ∈ s.job.table, y.index ≠ w.member ∧ terminal y = false)
    (raised : raiseFault .drainSlow (some w.member) (some s.pass.stage) s = (s.setFaults f).setLine l) :
    ∃ late, takeReport w e s = without .drainSlow m late ((s.setFaults f).setLine l) := by
  let v := (s.setFaults f).setLine l
  have index := member?_index hm
  have checked : slowCheck w.member e s = without .drainSlow m (notedLate .drainSlow m v) v := by
    rw [slowCheck, if_neg slow, memberFault_of_going true unaborted hm goesOn, raised,
      if_neg (by simp [filtered, memberFaultClass, intolerant])]
    refine (retire_atWindowEnd (s := v) hm goesOn).trans ?_
    exact checkedAfter_of_incomplete (.inr (incomplete_without (by rw [index]; exact other)))
  refine ⟨notedLate .drainSlow m v, (takeReport_slow_gone hm goesOn ?_).trans checked⟩
  rw [checked, ← index]
  exact member?_without_own _ _ _ _

/-- A retiring member leaves at its window's end (R92, R96). -/
theorem takeReport_leaves {w : Window} {e : EndCause} {m : Member} {code : Code}
    (hm : member? s.pass w.member = some m) (retiring : m.retiring = some code)
    (other : ∃ y ∈ s.job.table, y.index ≠ w.member ∧ terminal y = false) :
    takeReport w e s = without code m s.pass.late s := by
  rw [takeReport_retiring hm retiring, leave_eq hm]
  refine checkedAfter_of_incomplete (.inr (incomplete_without ?_))
  rw [member?_index hm]
  exact other

/-- The histories of the others do not show the window's entries (R126, R127). -/
theorem filter_appendHistory (w : Window) (hs : List History) :
    (appendHistory w hs).filter (fun h => h.index != w.member) = hs.filter (fun h => h.index != w.member) := by
  unfold appendHistory
  induction hs with
  | nil => rfl
  | cons h hs ih =>
    by_cases own : h.index = w.member
    · rw [List.map_cons, if_pos own, List.filter_cons_of_neg (by simp [own]), List.filter_cons_of_neg (by simp [own]), ih]
    · rw [List.map_cons, if_neg own, List.filter_cons_of_pos (by simp [own]), List.filter_cons_of_pos (by simp [own]), ih]

/-- What a member that leaves at its window's end leaves behind, `s` being the state before the window closed. -/
theorem without_turned {code : Code} {w : Window} {m : Member} {late : Late} (s : State) (f : Faults) (l : YardLine)
    (own : m.index = w.member) :
    let r := without code { m with wetted := false } late (((turned w s).setFaults f).setLine l)
    r.pass.members = s.pass.members.filter (fun y => y.index != w.member)
    ∧ r.pass.departed = insertResult { index := w.member, outcome := .retired code, own := m.own } s.pass.departed
    ∧ r.diu.histories = s.diu.histories.filter (fun h => h.index != w.member)
    ∧ r.job = { s.job with table := s.job.table.map (fun y => if y.index = w.member then
        outcomeRecord code.outcome m y else y) } := by
  rw [← own]
  refine ⟨?_, rfl, ?_, ?_⟩
  · show (turnedPass w.member s.pass).members.filter _ = _
    rw [own]
    exact filter_updMember (p := s.pass) (f := fun m => { m with wetted := false }) (fun _ => rfl)
  · show (appendHistory w s.diu.histories).filter _ = _
    rw [own]
    exact filter_appendHistory w _
  · rfl

end Sys2Proof.Machine
end

section
/-! SUPPORT. The end of a WASH or a RINSE window with a further member on the list, case by case. -/

namespace Sys2Proof.Machine

variable {s t u v r y : State} {x : Window} {e : EndCause} {j : Nat} {rest : List Nat} {m : Member}

/-- The window `x` of member `m` ends in the DRAIN of `y`, the member `j` next on the list. -/
structure WindowEnds (x : Window) (j : Nat) (rest : List Nat) (m : Member) (y : State) : Prop where
  drain : y.pass.phase = .drain
  unaborted : y.pass.abortCode = none
  unheld : y.pass.pendingHold = false
  list : y.pass.drainList = x.member :: j :: rest
  distinct : (x.member :: j :: rest).Nodup
  here : (retiringOf y.pass j).isSome = true
  hm : member? y.pass x.member = some m
  kind : (stageOf y.pass).kind = .wash ∨ (stageOf y.pass).kind = .rinse
  other : ∃ z ∈ y.job.table, z.index ≠ x.member ∧ terminal z = false
  present : namedAbsent y = false

theorem WindowEnds.listed (h : WindowEnds x j rest m y) : (turned x y).pass.drainList = j :: rest :=
  drainList_turned h.list h.distinct

theorem WindowEnds.unlisted (h : WindowEnds x j rest m y) : x.member ∉ (turned x y).pass.drainList := by
  rw [h.listed]
  exact (List.nodup_cons.mp h.distinct).1

theorem WindowEnds.apart (h : WindowEnds x j rest m y) : j ≠ x.member :=
  fun same => (List.nodup_cons.mp h.distinct).1 (same ▸ List.mem_cons_self)

theorem WindowEnds.member (h : WindowEnds x j rest m y) :
    member? (turned x y).pass x.member = some { m with wetted := false } := member?_turned h.hm

theorem WindowEnds.index (h : WindowEnds x j rest m y) : m.index = x.member := member?_index h.hm

theorem WindowEnds.next (_ : WindowEnds x j rest m y) : retiringOf (turned x y).pass j = retiringOf y.pass j :=
  retiringOf_updMember (p := y.pass) (f := fun m => { m with wetted := false }) (fun _ => rfl) (fun _ => rfl) j

/-- Whatever the report leaves, the next window opens. -/
theorem WindowEnds.opens (h : WindowEnds x j rest m y) (s0 : State) (k : Reported j (turned x y) r)
    (report : takeReport x e (turned x y) = r) : NextOpen j (turned x y) r (conclude s0 (endWindow x e y)) := by
  rw [endWindow_eq, report]
  exact k.opens s0 h.drain h.listed h.unheld h.present (by rw [h.next]; exact h.here)

/-- DRAINED: the report changes nothing. -/
theorem WindowEnds.drained (h : WindowEnds x j rest m y) (goesOn : m.retiring = none) (s0 : State) :
    NextOpen j (turned x y) (turned x y) (conclude s0 (endWindow x .drained y)) := by
  refine h.opens s0 (Reported.refl j _) ?_
  rw [takeReport_drained h.member goesOn]
  exact takeVerdict_rinsing _ _ h.kind

/-- NO_FLOW or OVERTIME: DRAIN_SLOW, filtered or the member's end. -/
theorem WindowEnds.slow (h : WindowEnds x j rest m y) (goesOn : m.retiring = none) (slow : e ≠ .drained)
    (empty : y.faults.record = none) (room : FifoBounded y) (s0 : State) :
    ∃ l : YardLine, l.fifo = joined [.fault (memberFaultRec .drainSlow x.member y)] y ∧ l.bus = y.line.bus
    ∧ (1 ≤ y.pass.tolerance → NextOpen j (turned x y) (countOwn x.member (((turned x y).setFaults
        { y.faults with record := some (memberFaultRec .drainSlow x.member y) }).setLine l))
        (conclude s0 (endWindow x e y)))
    ∧ (y.pass.tolerance = 0 → ∃ late, NextOpen j (turned x y) (without .drainSlow { m with wetted := false } late
        (((turned x y).setFaults
          { y.faults with record := some (memberFaultRec .drainSlow x.member y) }).setLine l))
        (conclude s0 (endWindow x e y))) := by
  obtain ⟨l, raised, fifo, bus⟩ := raiseFault_member (s := turned x y) .drainSlow x.member rfl empty room
  refine ⟨l, fifo, bus, fun tolerant => ?_, fun intolerant => ?_⟩
  · refine h.opens s0 ((recorded_reported _ l _).trans (countOwn_reported _ _)) ?_
    exact takeReport_slow_filtered h.kind h.member goesOn h.unaborted slow tolerant raised
  · obtain ⟨late, report⟩ := takeReport_slow_leaves h.member goesOn h.unaborted slow intolerant h.other raised
    have apart : j ≠ ({ m with wetted := false } : Member).index := fun same => h.apart (same.trans h.index)
    refine ⟨late, h.opens s0 ((recorded_reported _ l _).trans (without_reported _ apart ?_)) report⟩
    rw [show ({ m with wetted := false } : Member).index = _ from h.index]
    exact h.unlisted

/-- A retiring member leaves, whatever the cause. -/
theorem WindowEnds.leaves {code : Code} (h : WindowEnds x j rest m y) (retiring : m.retiring = some code) (s0 : State) :
    NextOpen j (turned x y) (without code { m with wetted := false } (turned x y).pass.late (turned x y))
      (conclude s0 (endWindow x e y)) := by
  have apart : j ≠ ({ m with wetted := false } : Member).index := fun same => h.apart (same.trans h.index)
  refine h.opens s0 (without_reported _ apart ?_) (takeReport_leaves h.member retiring h.other)
  rw [show ({ m with wetted := false } : Member).index = _ from h.index]
  exact h.unlisted

/-- The window of the next member as the window before it closes. -/
theorem WindowEnds.window (h : WindowEnds x j rest m y) : windowFor j (turned x y) = windowFor j y :=
  windowFor_congr rfl rfl rfl rfl h.next rfl

theorem SameShare.of_eq (same : v.share = s.share) (h : SameShare v t) : SameShare s t := by
  rwa [SameShare, same] at h

/-- What a sample in DRAIN leaves before the window is looked at. -/
theorem sampled_frame (iC iT iTemp : Nat) (s : State) : let y := sampled iC iT iTemp s
    y.pass = s.pass ∧ y.job = s.job ∧ y.fill = s.fill ∧ y.faults = s.faults ∧ y.share = s.share ∧ y.line = s.line
    ∧ y.diu.histories = s.diu.histories ∧ SameModule s y := ⟨rfl, rfl, rfl, rfl, rfl, rfl, rfl, .refl s⟩

end Sys2Proof.Machine
end

section
/-! SUPPORT. What the end of such a window leaves, from the state before it. -/

namespace Sys2Proof.Machine

variable {s t u v r y : State} {x : Window} {e : EndCause} {j : Nat} {rest : List Nat} {m : Member}

/-- The next member's window is open, the rest of the state as it was. -/
structure NextShown (j : Nat) (rest : List Nat) (y t : State) : Prop where
  phase : t.pass.phase = .drain
  list : t.pass.drainList = j :: rest
  draining : t.pass.draining = some j
  window : t.diu.window = some (windowFor j y)
  clock : t.diu.clock = 250
  stage : t.pass.stage = y.pass.stage
  fill : t.fill = y.fill
  share : SameShare y t
  module : SameModule y t

theorem WindowEnds.shown (h : WindowEnds x j rest m y) (n : NextOpen j (turned x y) r t) : NextShown j rest y t where
  phase := n.phase
  list := n.list.trans h.listed
  draining := n.draining
  window := by rw [n.window, h.window]
  clock := n.clock
  stage := n.stage
  fill := n.fill.trans (turned_kept x y).fill
  share := .of_eq (turned_kept x y).share n.share
  module := SameModule.trans (turned_kept x y).module n.module

/-- Member `m` has left with `code`. -/
structure GoneWith (code : Code) (m : Member) (y t : State) : Prop where
  members : t.pass.members = y.pass.members.filter (fun z => z.index != m.index)
  departed : t.pass.departed = insertResult { index := m.index, outcome := .retired code, own := m.own } y.pass.departed
  histories : t.diu.histories = y.diu.histories.filter (fun h => h.index != m.index)
  job : t.job = { y.job with table := updTable m.index (outcomeRecord code.outcome m) y.job.table }

theorem WindowEnds.gone {code : Code} {late : Late} {f : Faults} {l : YardLine} (h : WindowEnds x j rest m y)
    (n : NextOpen j (turned x y)
      (without code { m with wetted := false } late (((turned x y).setFaults f).setLine l)) t) :
    GoneWith code m y t := by
  obtain ⟨members, departed, histories, job⟩ := without_turned (code := code) (late := late) y f l h.index
  rw [← h.index] at members departed histories job
  exact ⟨n.members.trans members, n.departed.trans departed, n.histories.trans histories, n.job.trans job⟩

/-- The members after the turn of one. -/
def driedMembers (i : Nat) (l : List Member) : List Member :=
  l.map (fun z => if z.index = i then { z with wetted := false } else z)

theorem WindowEnds.ends_drained (h : WindowEnds x j rest m y) (goesOn : m.retiring = none) (s0 : State) :
    let t := conclude s0 (endWindow x .drained y)
    NextShown j rest y t ∧ t.pass.members = driedMembers x.member y.pass.members
    ∧ t.diu.histories = appendHistory x y.diu.histories ∧ t.job = y.job ∧ t.faults = y.faults
    ∧ Sending y.line.fifo y t := by
  have n := h.drained goesOn s0
  exact ⟨h.shown n, n.members, n.histories, n.job, n.faults, n.line⟩

theorem WindowEnds.ends_slow (h : WindowEnds x j rest m y) (goesOn : m.retiring = none) (slow : e ≠ .drained)
    (empty : y.faults.record = none) (room : FifoBounded y) (s0 : State) :
    let t := conclude s0 (endWindow x e y)
    let f := memberFaultRec .drainSlow x.member y
    NextShown j rest y t ∧ t.faults = { y.faults with record := some f } ∧ Sending (joined [.fault f] y) y t
    ∧ (1 ≤ y.pass.tolerance → t.job = y.job ∧ t.diu.histories = appendHistory x y.diu.histories
      ∧ t.pass.members = (driedMembers x.member y.pass.members).map (fun z =>
        if z.index = x.member then { z with own := z.own + 1 } else z))
    ∧ (y.pass.tolerance = 0 → GoneWith .drainSlow m y t) := by
  obtain ⟨l, fifo, bus, filtered', unfiltered⟩ := h.slow goesOn slow empty room s0
  dsimp only
  generalize conclude s0 (endWindow x e y) = t at filtered' unfiltered
  by_cases tolerant : 1 ≤ y.pass.tolerance
  · have n := filtered' tolerant
    refine ⟨h.shown n, n.faults, ⟨n.line.1.trans fifo, n.line.2.trans bus⟩, fun _ => ⟨n.job, n.histories, n.members⟩,
      fun none => ?_⟩
    omega
  · obtain ⟨late, n⟩ := unfiltered (by omega)
    exact ⟨h.shown n, n.faults, ⟨n.line.1.trans fifo, n.line.2.trans bus⟩, fun h => absurd h tolerant,
      fun _ => h.gone n⟩

theorem WindowEnds.ends_retiring {code : Code} (h : WindowEnds x j rest m y) (retiring : m.retiring = some code)
    (s0 : State) : let t := conclude s0 (endWindow x e y)
    NextShown j rest y t ∧ GoneWith code m y t ∧ t.faults = y.faults ∧ Sending y.line.fifo y t := by
  have n := h.leaves (e := e) retiring s0
  exact ⟨h.shown n, h.gone (f := y.faults) (l := y.line) n, n.faults, n.line⟩

end Sys2Proof.Machine
end

section
open Sys2Proof Sys2Proof.Machine

/-- Settles O35: the cause and the member's mark decide the report; the next window opens after each. -/
theorem windowsEndByTheirCauses : Obligations.WindowsEndByTheirCauses := by
  unfold Obligations.WindowsEndByTheirCauses
  intro iC iT iTemp i j rest e s w m running drain unaborted unheld noLow window own hm room empty kind list distinct here
    other after c t x cause mass histories slow dried left
  subst own
  have taken := exec_diuSample_inDrain running drain noLow c t
  have isX : windowSample (saturated s.diu.c.gain iC) (saturated s.diu.t.gain iT) (sampled iC iT iTemp s) w = x := rfl
  have causes : x.endCause.or none = some e := by rw [cause]; rfl
  rw [windowTick_ends (s := sampled iC iT iTemp s) drain window (by rw [isX]; exact causes), isX] at taken
  have present : namedAbsent (sampled iC iT iTemp s) = false := by
    refine namedAbsent_of_named (fun h => c ?_) (fun h => t ?_)
    · rw [names_conductivity]; exact decide_eq_true h
    · rw [names_turbidity]; exact decide_eq_true h
  have ends : WindowEnds x j rest m (sampled iC iT iTemp s) := by
    refine ⟨drain, unaborted, unheld, list, distinct, ?_, hm, kind, other, present⟩
    obtain ⟨z, hz, index⟩ := here
    show ((s.pass.members.find? (fun m => m.index == j)).map (·.retiring.isSome)).isSome = true
    rw [Option.isSome_map, List.find?_isSome]
    exact ⟨z, hz, by simp [index]⟩
  have isWindow : windowFor j (sampled iC iT iTemp s) = windowFor j s := windowFor_congr rfl rfl rfl rfl rfl rfl
  have appended : appendHistory x s.diu.histories = histories := rfl
  have index : m.index = w.member := member?_index hm
  have isMember : x.member = w.member := rfl
  obtain ⟨pass, job, fill, faults, share, line, records, module⟩ := sampled_frame iC iT iTemp s
  generalize sampled iC iT iTemp s = y at taken pass job fill faults share line records module ends isWindow
  clear isX causes
  clear_value x
  have shown {t : State} (n : NextShown j rest y t) :
      t.pass.phase = .drain ∧ t.pass.drainList = j :: rest ∧ t.pass.draining = some j
      ∧ t.diu.window = some (windowFor j s) ∧ t.diu.clock = 250 ∧ t.pass.stage = s.pass.stage
      ∧ t.fill = s.fill ∧ SameShare s t ∧ SameModule s t :=
    ⟨n.phase, n.list, n.draining, by rw [n.window, isWindow], n.clock, by rw [n.stage, pass], n.fill.trans fill,
      .of_eq share n.share, SameModule.trans module n.module⟩
  have gone {code : Code} {t : State} (n : GoneWith code m y t) : left code t := by
    have table := n.job
    have departed := n.departed
    have members := n.members
    have dropped := n.histories
    rw [index, pass] at members departed
    rw [index, records] at dropped
    rw [index, job] at table
    refine ⟨members, departed, dropped, table.trans ?_⟩
    refine congrArg (fun table : List Compartment => ({ s.job with table := table } : JobUnit)) ?_
    refine List.map_congr_left (fun z _ => ?_)
    by_cases own : z.index = w.member
    · rw [if_pos own, if_pos own]
      cases code <;> rfl
    · rw [if_neg own, if_neg own]
  have sends {l : List Notice} {t : State} (h : Sending l y t) : Sending l s t := ⟨h.1, by rw [h.2, line]⟩
  refine ⟨_, taken, ?_⟩
  cases retiring : m.retiring with
  | none =>
    by_cases dry : e = .drained
    · subst dry
      obtain ⟨n, members, records', job', faults', line'⟩ := ends.ends_drained retiring s
      generalize conclude s (endWindow x .drained y) = t at n members records' job' faults' line'
      obtain ⟨phase, list', draining, window', clock, stage, fill', share', module'⟩ := shown n
      rw [isMember, pass] at members
      rw [records, appended] at records'
      rw [line] at line'
      exact ⟨phase, list', draining, window', clock, stage, fill', share', module', fun _ _ => ⟨members, records',
        job'.trans job, faults'.trans faults, sends line'⟩, fun _ wet => absurd rfl wet, fun code h => nomatch h⟩
    · obtain ⟨n, faults', line', filtered', unfiltered⟩ := ends.ends_slow retiring dry (by rw [faults]; exact empty)
        (by rw [FifoBounded, line]; exact room) s
      generalize conclude s (endWindow x e y) = t at n faults' line' filtered' unfiltered
      obtain ⟨phase, list', draining, window', clock, stage, fill', share', module'⟩ := shown n
      have isSlow : memberFaultRec .drainSlow x.member y = slow := by
        rw [memberFaultRec, isMember, pass, job]
      rw [isSlow] at faults' line'
      rw [faults] at faults'
      rw [joined, line] at line'
      rw [pass, job, records, appended, isMember] at filtered'
      rw [pass] at unfiltered
      exact ⟨phase, list', draining, window', clock, stage, fill', share', module', fun _ h => absurd h dry,
        fun _ _ => ⟨faults', sends line', filtered', fun none => gone (unfiltered none)⟩, fun code h => nomatch h⟩
  | some code =>
    obtain ⟨n, left', faults', line'⟩ := ends.ends_retiring (e := e) retiring s
    generalize conclude s (endWindow x e y) = t at n left' faults' line'
    obtain ⟨phase, list', draining, window', clock, stage, fill', share', module'⟩ := shown n
    rw [line] at line'
    refine ⟨phase, list', draining, window', clock, stage, fill', share', module', nofun, nofun,
      fun code' h => ?_⟩
    obtain rfl : code = code' := Option.some.inj h
    exact ⟨gone left', faults'.trans faults, sends line'⟩

end

section
/-! SUPPORT. What the share unit, the sump and a send completion leave of a pass (R155 to R158, R162, R167, R170). -/

namespace Sys2Proof.Machine

variable {s t u v : State}

/-- Only the share unit, the line, the fault record and the sump's own input may have changed, and the starvation
condition stands as last reported. -/
structure Fed (s u : State) : Prop where
  pass : u.pass = s.pass
  job : u.job = s.job
  diu : u.diu = s.diu
  fill : u.fill = s.fill
  module : SameModule s u
  level : u.panel.level = s.panel.level
  raw : u.panel.raw = s.panel.raw
  starved : u.share.starved = s.share.starved

theorem Fed.refl (s : State) : Fed s s := ⟨rfl, rfl, rfl, rfl, .refl s, rfl, rfl, rfl⟩

theorem Fed.trans (h : Fed s u) (k : Fed u v) : Fed s v where
  pass := k.pass.trans h.pass
  job := k.job.trans h.job
  diu := k.diu.trans h.diu
  fill := k.fill.trans h.fill
  module := h.module.trans k.module
  level := k.level.trans h.level
  raw := k.raw.trans h.raw
  starved := k.starved.trans h.starved

theorem setShare_fed (v : Share) (starved : v.starved = s.share.starved) : Fed s (s.setShare v) :=
  ⟨rfl, rfl, rfl, rfl, .refl s, rfl, rfl, starved⟩

theorem setLine_fed (v : YardLine) : Fed s (s.setLine v) := ⟨rfl, rfl, rfl, rfl, .refl s, rfl, rfl, rfl⟩

theorem raiseFault_fed (k : FaultKind) (comp stage : Option Nat) : Fed s (raiseFault k comp stage s) := by
  obtain ⟨rest, -⟩ := raiseFault_rest k comp stage s
  rw [rest]
  exact ⟨rfl, rfl, rfl, rfl, .refl s, rfl, rfl, rfl⟩

theorem withPeers_fed (l : List Peer) : Fed s (withPeers l s) := setShare_fed _ rfl

theorem withPeers_setShare_fed (l : List Peer) (v : Share) (starved : v.starved = s.share.starved) :
    Fed s (withPeers l (s.setShare v)) :=
  (setShare_fed v starved).trans (withPeers_fed l)

theorem lockOut_fed : Fed s (lockOut s) := by
  unfold lockOut
  split
  · exact .refl s
  · exact ((raiseFault_fed _ _ _).trans (setLine_fed _)).trans (withPeers_setShare_fed _ _ rfl)

theorem takeDemand_fed (n : Nat) (d : Demand) : Fed s (takeDemand n d s) := by
  unfold takeDemand
  split
  · exact lockOut_fed
  · split
    · exact .refl s
    · exact withPeers_fed _

theorem takeRestarted_fed (n : Nat) : Fed s (takeRestarted n s) := by
  unfold takeRestarted
  split
  · exact lockOut_fed
  · exact withPeers_fed _

theorem takeStatus_fed (n : Nat) : Fed s (takeStatus n s) := by
  unfold takeStatus
  split
  · exact lockOut_fed
  · exact .refl s

theorem peerSilent_fed (n : Nat) : Fed s (peerSilent n s) := by
  unfold peerSilent
  split
  · exact withPeers_fed _
  · exact .refl s

theorem goStale_fed : Fed s (goStale s) := by
  unfold goStale
  split
  · exact (setShare_fed (s := s) (recompute (s.setShare { s.share with stale := none })).share rfl).trans
      (raiseFault_fed _ _ _)
  · exact .refl s

theorem announce_fed (d : Demand) : Fed s (announce d s) := by
  unfold announce
  split
  · exact .refl s
  · exact withPeers_setShare_fed _ _ rfl

theorem sendComplete_fed : Fed s (sendComplete s) := by
  have noted (v : State) : Fed v (noteSent v) := by
    rw [(noteSent_rest v).1]
    exact setLine_fed _
  unfold sendComplete
  split
  · exact .refl s
  · dsimp only
    split
    · exact (setLine_fed _).trans (announce_fed _)
    · exact (setLine_fed _).trans (noted _)
    · exact (setLine_fed _).trans (noted _)
    · exact (setLine_fed _).trans (noted _)

theorem sumpSample_fed (current : Nat) : Fed s (stepPumpOut (sampleSump (takeSumpLoop current s))) := by
  have sampled : Fed s (sampleSump (takeSumpLoop current s)) := ⟨rfl, rfl, rfl, rfl, .refl s, rfl, rfl, rfl⟩
  unfold stepPumpOut
  split
  · exact sampled
  · split
    · exact sampled.trans (setShare_fed _ rfl)
    · exact sampled

theorem takeSupply_fed (hot eff : Nat) (plant : Plant) : Fed s (takeSupply hot eff plant s) := setShare_fed _ rfl

/-- A frame of the yard line, taken or not, in service or not. -/
theorem Fed.received {p : Prop} [Decidable p] {f : State → State} (h : ∀ v, Fed v (f v)) :
    Fed s (if p then ifInService f s else s) := by
  unfold ifInService
  split
  · split
    · exact h s
    · exact .refl s
  · exact .refl s

theorem exec_supply (f : Frame) (running : s.power = .running) : exec (.supply f) s
    = .next (conclude s (if taken 0 5 f s then
        ifInService (takeSupply (wordAt f 0) (wordAt f 2) (plantOfCode (byteAt f 4))) s else s)) := by
  unfold exec execSupply
  exact event_running _ s running

theorem exec_supplyStale (running : s.power = .running) :
    exec .supplyStale s = .next (conclude s (goStale s)) := by
  unfold exec execSupplyStale
  exact event_running _ s running

theorem exec_transmitComplete (running : s.power = .running) : exec .transmitComplete s
    = .next (conclude s (if s.line.bus = .active then sendComplete s else s)) := by
  unfold exec execTransmitComplete
  exact event_running _ s running

/-- The eight commands that may move the hot share or the sump level leave the pass to the look at the conditions. -/
theorem exec_fed {c : Instr} (running : s.power = .running)
    (h : (∃ f, c = .supply f ∨ c = .demand f ∨ c = .bayRestarted f ∨ c = .bayStatus f)
      ∨ (∃ n, c = .sumpSample n ∨ c = .peerSilenceExpiry n) ∨ c = .transmitComplete ∨ c = .supplyStale) :
    ∃ u, exec c s = .next (conclude s u) ∧ Fed s u := by
  obtain ⟨f, rfl | rfl | rfl | rfl⟩ | ⟨n, rfl | rfl⟩ | rfl | rfl := h
  · exact ⟨_, exec_supply f running, .received (fun _ => takeSupply_fed _ _ _)⟩
  · exact ⟨_, exec_demand f running, .received (fun _ => takeDemand_fed _ _)⟩
  · exact ⟨_, exec_bayRestarted f running, .received (fun _ => takeRestarted_fed _)⟩
  · exact ⟨_, exec_bayStatus f running, .received (fun _ => takeStatus_fed _)⟩
  · exact ⟨_, exec_sumpSample n running, sumpSample_fed n⟩
  · exact ⟨_, exec_peerSilenceExpiry n running, peerSilent_fed n⟩
  · refine ⟨_, exec_transmitComplete running, ?_⟩
    split
    · exact sendComplete_fed
    · exact .refl s
  · exact ⟨_, exec_supplyStale running, goStale_fed⟩

end Sys2Proof.Machine
end

section
/-! SUPPORT. The look at the conditions in SPRAY and STARVED (R86, R87, R169). -/

namespace Sys2Proof.Machine

variable {s t u v w : State}

/-- The end of an event, from what the look at the conditions has led to. -/
theorem conclude_look (s0 u : State) : Concluded (lookConditions s0 u) (conclude s0 u) :=
  driveOutputs_concluded (sent_ends s0 _)

theorem conclude_starved (s0 u : State) :
    (conclude s0 u).share.starved = (lookConditions s0 u).share.starved := by
  obtain ⟨-, -, -, ended⟩ := sent_ends s0 (lookConditions s0 u)
  have share : (conclude s0 u).share = (sendNext (refreshStatus s0 (formDemand s0 (lookConditions s0 u)))).share := rfl
  rw [share, ended]

theorem starvation_congr (pass : t.pass = s.pass) (reader : t.reader = s.reader)
    (hot : t.share.hotShare = s.share.hotShare) (level : t.share.level = s.share.level) :
    starvation t = starvation s := by
  unfold starvation sumpHigh
  rw [pass, reader, hot, level]

theorem resumption_congr (stage : t.pass.stage = s.pass.stage) (recipe : t.pass.recipeData = s.pass.recipeData)
    (members : t.pass.members = s.pass.members) (reader : t.reader = s.reader)
    (hot : t.share.hotShare = s.share.hotShare) (level : t.share.level = s.share.level) :
    resumption t = resumption s := by
  unfold resumption sumpResumed halfNominal nominalFlow sprayingMembers stageOf recipeOf
  rw [stage, recipe, members, reader, hot, level]

/-- With the resume mark below the high mark no starvation is a resumption (R3, R86, R87). -/
theorem not_resumption_of_starvation (marks : ∀ tb, s.reader.tables = some tb → tb.yard.resumeMark < tb.yard.highMark)
    (starves : starvation s = true) : resumption s = false := by
  unfold starvation at starves
  rw [Bool.or_eq_true] at starves
  unfold resumption
  obtain short | high := starves
  · simp only [Bool.and_eq_true, decide_eq_true_eq] at short
    obtain ⟨⟨-, hot⟩, short⟩ := short
    simp [hot, short]
  · have notResumed : sumpResumed s = false := by
      unfold sumpHigh at high
      unfold sumpResumed
      cases tables : s.reader.tables with
      | none => rfl
      | some tb =>
        rw [tables] at high
        have above : tb.yard.highMark ≤ s.share.level := of_decide_eq_true high
        have lower := marks tb tables
        exact decide_eq_false (by omega)
    rw [notResumed, Bool.and_false]

/-- The inputs of the conditions have moved where the hot share or the level has. -/
theorem Fed.starveInputs_eq_iff (h : Fed s u) : starveInputs u = starveInputs s
    ↔ ¬ (u.share.hotShare ≠ s.share.hotShare ∨ u.share.level ≠ s.share.level) := by
  unfold starveInputs
  rw [h.pass]
  simp

theorem Fed.inService (h : Fed s u) (served : inService s) : Machine.inService u := by
  obtain ⟨power, reader, -⟩ := h.module
  exact ⟨power.trans served.1, by rw [reader]; exact served.2⟩

theorem reportStarvation_onset (spray : u.pass.phase = .spray) (unreported : u.share.starved = false)
    (starves : starvation u = true) : reportStarvation u = runDownToStarved (reported true u) := by
  unfold reportStarvation
  rw [if_pos starves, if_neg (ne_true_of_eq_false unreported)]
  exact if_pos spray

/-- But for an onset in SPRAY the report only records what it finds. -/
theorem reportStarvation_reports (h : u.pass.phase ≠ .spray ∨ u.share.starved = true ∨ starvation u = false) :
    ∃ b, reportStarvation u = reported b u := by
  unfold reportStarvation
  split
  next starves =>
    split
    · exact ⟨u.share.starved, rfl⟩
    next unreported =>
      have notSpray : u.pass.phase ≠ .spray := by
        obtain h | h | h := h
        · exact h
        · exact absurd h unreported
        · exact absurd starves (ne_true_of_eq_false h)
      exact ⟨true, if_neg notSpray⟩
  · exact ⟨false, rfl⟩

theorem lookConditions_changed {s0 : State} (served : inService u) (changed : starveInputs u ≠ starveInputs s0) :
    lookConditions s0 u = lookResumption (reportStarvation u) := if_pos ⟨served, changed⟩

/-- The onset of starvation in SPRAY: a run-down toward STARVED, and no resumption with it (R86). -/
theorem lookConditions_onset {s0 : State} (served : inService u) (changed : starveInputs u ≠ starveInputs s0)
    (marks : ∀ tb, u.reader.tables = some tb → tb.yard.resumeMark < tb.yard.highMark)
    (spray : u.pass.phase = .spray) (unreported : u.share.starved = false) (starves : starvation u = true) :
    lookConditions s0 u = runDownToStarved (reported true u) := by
  rw [lookConditions_changed served changed, reportStarvation_onset spray unreported starves]
  refine if_neg (fun ⟨_, resumes⟩ => ?_)
  obtain ⟨p, runDown, -, members, stage, recipe, -⟩ := runDownToStarved_eq_setPass (reported true u)
  have same : resumption ((reported true u).setPass p) = resumption u := resumption_congr stage recipe members rfl rfl rfl
  rw [runDown, same, not_resumption_of_starvation marks starves] at resumes
  cases resumes

/-- A SPRAY that does not begin to starve goes on (R86). -/
theorem lookConditions_sprayGoesOn {s0 : State} (spray : u.pass.phase = .spray)
    (h : starveInputs u = starveInputs s0 ∨ u.share.starved = true ∨ starvation u = false) :
    ∃ b, lookConditions s0 u = reported b u := by
  unfold lookConditions
  split
  next looked =>
    obtain ⟨b, report⟩ := reportStarvation_reports (u := u) (.inr (h.resolve_left looked.2))
    refine ⟨b, ?_⟩
    rw [report]
    exact if_neg (fun h => by cases spray.symm.trans h.1)
  · exact ⟨u.share.starved, rfl⟩

/-- In STARVED the resumption condition takes up the SPRAY (R87). -/
theorem lookConditions_resumes {s0 : State} (served : inService u) (changed : starveInputs u ≠ starveInputs s0)
    (starved : u.pass.phase = .starved) (resumes : resumption u = true) :
    ∃ b, lookConditions s0 u = runSpray (reported b u) := by
  obtain ⟨b, report⟩ := reportStarvation_reports (u := u) (.inl (by rw [starved]; exact nofun))
  refine ⟨b, ?_⟩
  rw [lookConditions_changed served changed, report]
  exact if_pos ⟨starved, resumes⟩

/-- A STARVED that is not taken up goes on. -/
theorem lookConditions_starvedGoesOn {s0 : State} (starved : u.pass.phase = .starved)
    (h : starveInputs u = starveInputs s0 ∨ resumption u = false) : ∃ b, lookConditions s0 u = reported b u := by
  unfold lookConditions
  split
  next looked =>
    obtain ⟨b, report⟩ := reportStarvation_reports (u := u) (.inl (by rw [starved]; exact nofun))
    refine ⟨b, ?_⟩
    rw [report]
    have unresumed : resumption (reported b u) = false := h.resolve_left looked.2
    exact if_neg (fun h => by rw [unresumed] at h; cases h.2)
  · exact ⟨u.share.starved, rfl⟩

/-! ## A SPRAY taken up with its volume reached (R68; log 17) -/

theorem sprayList_wetted (l : List Member) : ((wettedMembers l).filter (fun m => !m.passed)).map (·.index)
    = (l.filter (fun m => !m.passed)).map (·.index) := by
  rw [filter_wettedMembers _ (fun _ => rfl)]
  exact wettedMembers_index _

/-- A spraying member goes on. -/
theorem goesOn_of_spraying {p : Pass} (sprays : sprayingMembers p ≠ []) : allRetiring p = false := by
  obtain ⟨m, hm⟩ := List.exists_mem_of_ne_nil _ sprays
  obtain ⟨hm, chosen⟩ := List.mem_filter.mp hm
  rw [allRetiring, List.all_eq_false]
  simp only [Bool.and_eq_true] at chosen
  exact ⟨m, hm, by simp [Option.isNone_iff_eq_none.mp chosen.2]⟩

theorem runSpray_reached {i : Nat} {l : List Nat} (seated : unseated s = []) (dry : flooded s = [])
    (present : namedAbsent s = false) (unaborted : s.pass.abortCode = none) (reached : volumeReached s.pass = true)
    (sprays : sprayingMembers s.pass ≠ [])
    (list : (s.pass.members.filter (fun m => !m.passed)).map (·.index) = i :: l) :
    runSpray s = openedDrain i (standInDrain (i :: l) (keepWatch (spraying s))) := by
  have begun : runSpray s = settle (sprayFindings (spraying s)) := by
    unfold runSpray
    rw [wetSpraying_eq]
    rfl
  have findings : sprayFindings (spraying s) = spraying s := by
    unfold sprayFindings
    rw [unseated_spraying, flooded_spraying, seated, dry]
    rfl
  have sprays' : sprayingMembers (spraying s).pass ≠ [] := by
    have members : sprayingMembers (spraying s).pass = wettedMembers (sprayingMembers s.pass) :=
      sprayingMembers_wetted s.pass
    rw [members]
    simpa [wettedMembers] using sprays
  have goesOn := goesOn_of_spraying sprays'
  have some : (spraying s).pass.members ≠ [] := by
    intro none
    rw [sprayingMembers, none] at sprays'
    exact sprays' rfl
  have takes : formed (spraying s).pass ∧ aborting (spraying s).pass = false := by
    refine ⟨formed_of_spray rfl, ?_⟩
    have same : (spraying s).pass.abortCode = none := unaborted
    simp [aborting, same]
  have reached' : volumeReached (spraying s).pass = true := (volumeReached_sprayPass s.pass).trans reached
  rw [begun, findings, settle, if_pos takes, if_neg some, if_neg (ne_true_of_eq_false goesOn)]
  refine (if_pos reached').trans ?_
  exact enterDrain_eq (s := keepWatch (spraying s)) ((unseated_spraying s).trans seated) present
    ((sprayList_wetted s.pass.members).trans list)

/-- DRAIN as it stands after its entry. -/
theorem drainStands_frame (i : Nat) (l : List Nat) (v : State) : let d := openedDrain i (standInDrain l v)
    d.pass.phase = .drain ∧ d.pass.members = v.pass.members ∧ d.pass.spray = none ∧ d.pass.drainList = l
    ∧ d.pass.draining = some i ∧ d.diu.window.map (·.member) = some i ∧ d.panel.raw.pumpStopped = true
    ∧ SameModule v d := ⟨rfl, rfl, rfl, rfl, rfl, rfl, rfl, .refl v⟩

end Sys2Proof.Machine
end

section
/-! SUPPORT. What such an event leaves around the pass, and the end of a run-down toward STARVED (R66, R83, R87). -/

namespace Sys2Proof.Machine

variable {s t u v w : State}

/-- The blocks that a feed of the SPRAY leaves alone, whatever it does to the pass. -/
structure Aside (s t : State) : Prop where
  job : t.job = s.job
  diu : t.diu = s.diu
  fill : t.fill = s.fill
  module : SameModule s t
  level : t.panel.level = s.panel.level

theorem Aside.trans (h : Aside s u) (k : Aside u v) : Aside s v where
  job := k.job.trans h.job
  diu := k.diu.trans h.diu
  fill := k.fill.trans h.fill
  module := h.module.trans k.module
  level := k.level.trans h.level

theorem Fed.aside (h : Fed s u) : Aside s u := ⟨h.job, h.diu, h.fill, h.module, h.level⟩

theorem Concluded.aside (k : Concluded w t) : Aside w t :=
  ⟨k.job, k.diu, k.fill, k.module, congrArg Panel.level k.panel⟩

theorem setPass_aside (p : Pass) : Aside s (s.setPass p) := ⟨rfl, rfl, rfl, .refl s, rfl⟩

theorem spraying_aside (s : State) : Aside s (spraying s) := ⟨rfl, rfl, rfl, .refl s, rfl⟩

theorem reported_fed (h : Fed s u) (b : Bool) : Aside s (reported b u) :=
  h.aside.trans ⟨rfl, rfl, rfl, .refl u, rfl⟩

theorem unseated_congr (pass : t.pass = s.pass) (head : t.panel.level.head = s.panel.level.head) :
    unseated t = unseated s := by
  unfold unseated headOn
  rw [pass, head]

theorem flooded_congr (pass : t.pass = s.pass) (probe : t.panel.level.probe = s.panel.level.probe) :
    flooded t = flooded s := by
  unfold flooded probeWet
  rw [pass, probe]

theorem namedAbsent_congr (pass : t.pass = s.pass) (diu : t.diu = s.diu) : namedAbsent t = namedAbsent s := by
  unfold namedAbsent
  rw [pass, diu]

/-- With the pass as it was. -/
theorem Fed.unchanged {b : Bool} (h : Fed s u) (k : Concluded (reported b u) t) :
    Aside s t ∧ t.pass = s.pass ∧ t.panel.raw = s.panel.raw := by
  refine ⟨(reported_fed h b).trans k.aside, k.pass.trans h.pass, ?_⟩
  rw [k.panel]
  exact h.raw

/-- With the SPRAY taken up. -/
theorem Fed.takenUp {b : Bool} (h : Fed s u) (seated : unseated s = []) (dry : flooded s = [])
    (short : volumeReached s.pass = false) (goesOn : allRetiring s.pass = false)
    (k : Concluded (runSpray (reported b u)) t) : Aside s t ∧ t.pass = sprayPass s.pass
      ∧ t.panel.raw = { s.panel.raw with pumpStopped := false } := by
  have pass : (reported b u).pass = s.pass := h.pass
  have seated' : unseated (reported b u) = [] := (unseated_congr pass (congrArg Lines.head h.level)).trans seated
  have dry' : flooded (reported b u) = [] := (flooded_congr pass (congrArg Lines.probe h.level)).trans dry
  rw [runSpray_eq seated' dry' (by rw [pass]; exact short) (by rw [pass]; exact goesOn)] at k
  refine ⟨((reported_fed h b).trans (spraying_aside _)).trans k.aside, ?_, ?_⟩
  · rw [k.pass]
    exact congrArg sprayPass h.pass
  · rw [k.panel]
    exact congrArg (fun raw : Lines => { raw with pumpStopped := false }) h.raw

/-- With the SPRAY's volume reached: the entry of DRAIN. -/
theorem Fed.drained {b : Bool} (h : Fed s u) (seated : unseated s = []) (dry : flooded s = [])
    (present : namedAbsent s = false) (unaborted : s.pass.abortCode = none) (reached : volumeReached s.pass = true)
    (sprays : sprayingMembers s.pass ≠ []) (k : Concluded (runSpray (reported b u)) t) :
    t.job = s.job ∧ t.fill = s.fill ∧ SameModule s t ∧ t.pass.phase = .drain
    ∧ t.pass.members = wettedMembers s.pass.members ∧ t.pass.spray = none
    ∧ t.pass.drainList = (s.pass.members.filter (fun m => !m.passed)).map (·.index)
    ∧ t.diu.window.map (·.member) = t.pass.drainList.head? ∧ t.panel.raw.pumpStopped = true := by
  obtain ⟨i, l, list⟩ := unpassed_of_spraying sprays
  have pass : (reported b u).pass = s.pass := h.pass
  have seated' : unseated (reported b u) = [] := (unseated_congr pass (congrArg Lines.head h.level)).trans seated
  have dry' : flooded (reported b u) = [] := (flooded_congr pass (congrArg Lines.probe h.level)).trans dry
  have present' : namedAbsent (reported b u) = false := (namedAbsent_congr pass h.diu).trans present
  rw [runSpray_reached (i := i) (l := l) seated' dry' present' (by rw [pass]; exact unaborted)
    (by rw [pass]; exact reached) (by rw [pass]; exact sprays) (by rw [pass]; exact list)] at k
  have aside : Aside s (keepWatch (spraying (reported b u))) :=
    ((reported_fed h b).trans (spraying_aside _)).trans (setPass_aside _)
  have members : (keepWatch (spraying (reported b u))).pass.members = wettedMembers s.pass.members :=
    congrArg (fun p : Pass => wettedMembers p.members) h.pass
  generalize keepWatch (spraying (reported b u)) = v at k aside members
  obtain ⟨job, fill, -, -⟩ := drainEntered_frame i (i :: l) v
  obtain ⟨phase, members', spray, drainList, -, window, raw, module⟩ := drainStands_frame i (i :: l) v
  generalize openedDrain i (standInDrain (i :: l) v) = d at *
  rw [list, k.pass, k.diu, k.panel, k.job, k.fill]
  exact ⟨job.trans aside.job, fill.trans aside.fill, (aside.module.trans module).trans k.module, phase,
    members'.trans members, spray, drainList, by rw [window, drainList]; rfl, raw⟩

theorem runDownToStarved_fromSpray (runs : s.panel.level.pumpStopped = false) :
    (runDownToStarved s).pass.fromSpray = true := by
  rw [runDownToStarved_running runs]
  rfl

/-! ## The end of a run-down toward STARVED -/

/-- A run-down toward STARVED ends with the heads' and the probes' lines as they were. -/
theorem exec_starvedRunDown_end {c : Instr} (running : s.power = .running)
    (h : c = .pumpStoppedOn ∨ c = .runDownTimeout) (runDown : s.pass.phase = .runDown) :
    ∃ p : Panel, p.level.head = s.panel.level.head ∧ p.level.probe = s.panel.level.probe
      ∧ exec c s = .next (conclude s (endRunDown (s.setPanel p))) := by
  have ends (p : Panel) : endIfRunDown (s.setPanel p) = endRunDown (s.setPanel p) := if_pos runDown
  obtain rfl | rfl := h
  · refine ⟨(takeLine .pumpStopped true s).panel, rfl, rfl, ?_⟩
    rw [← ends]
    unfold exec execPumpStoppedOn
    exact event_running _ s running
  · refine ⟨s.panel, rfl, rfl, ?_⟩
    rw [← ends]
    unfold exec execRunDownTimeout
    exact event_running _ s running

theorem endRunDown_resumed (dest : s.pass.dest = some .starved) (short : volumeReached s.pass = false)
    (resumes : resumption s = true) : endRunDown s = runSpray s := by simp [endRunDown, dest, short, resumes]

theorem endRunDown_reached (dest : s.pass.dest = some .starved) (reached : volumeReached s.pass = true) :
    endRunDown s = enterDrain s := by simp [endRunDown, dest, reached]

end Sys2Proof.Machine
end

section
open Sys2Proof Sys2Proof.Machine

/-- Settles O52: the look at the conditions at the end of the event decides, in SPRAY and in STARVED; the end of a
run-down toward STARVED looks at them itself. -/
theorem starvationAndResumption : Obligations.StarvationAndResumption := by
  unfold Obligations.StarvationAndResumption
  intro ready wetted
  refine ⟨fun c s served _ marks hc => ?_, fun c s running hc runDown dest => ?_⟩
  · obtain ⟨u, taken, fed⟩ := exec_fed served.1 hc
    refine ⟨_, taken, ?_⟩
    have k := conclude_look s u
    have starved := conclude_starved s u
    have share := conclude_share s u
    generalize conclude s u = t at k starved share
    have hot : t.share.hotShare = u.share.hotShare := by rw [share]
    have level : t.share.level = u.share.level := by rw [share]
    have served' := fed.inService served
    have marks' : ∀ tb, u.reader.tables = some tb → tb.yard.resumeMark < tb.yard.highMark := by
      rw [fed.module.2.1]; exact marks
    have moved := fed.starveInputs_eq_iff
    have starves : starvation { s with share := t.share } = starvation u :=
      starvation_congr fed.pass.symm fed.module.2.1.symm hot level
    have resumes : resumption { s with share := t.share } = resumption u :=
      resumption_congr (congrArg Pass.stage fed.pass.symm) (congrArg Pass.recipeData fed.pass.symm)
        (congrArg Pass.members fed.pass.symm) fed.module.2.1.symm hot level
    rw [← hot, ← level] at moved
    intro changed now frame
    have changes (h : changed) : starveInputs u ≠ starveInputs s := fun same => moved.mp same h
    have stays (h : ¬ changed) : starveInputs u = starveInputs s := moved.mpr h
    have framed (a : Aside s t) : frame := ⟨a.job, a.diu, a.fill, a.module, a.level⟩
    have unchanged {b : Bool} (h : lookConditions s u = reported b u) :
        frame ∧ t.pass = s.pass ∧ t.panel.raw = s.panel.raw := by
      rw [h] at k
      obtain ⟨aside, pass, raw⟩ := fed.unchanged k
      exact ⟨framed aside, pass, raw⟩
    rw [starves, resumes]
    refine ⟨fun spray => ⟨fun hc unreported onset => ?_, fun h => ?_⟩, fun inStarved => ⟨fun hc up hr => ?_,
      fun hc up seated dry present unaborted reached sprays => ?_, fun h => ?_⟩⟩
    · have look := lookConditions_onset served' (changes hc) marks' (by rw [fed.pass]; exact spray)
        (fed.starved.trans unreported) onset
      rw [look] at k starved
      have fromSpray := runDownToStarved_fromSpray (s := reported true u)
      obtain ⟨p, begun, record, members, stage, recipe, runs, stopped⟩ := runDownToStarved_eq_setPass (reported true u)
      rw [begun] at k starved fromSpray
      have pass : (reported true u).pass = s.pass := fed.pass
      have line : (reported true u).panel.level = s.panel.level := fed.level
      have aside := ((reported_fed fed true).trans (setPass_aside p)).trans k.aside
      have limit : recipeOf (reported true u).pass = recipeOf s.pass := by rw [pass]
      rw [pass] at record members stage
      rw [line] at runs stopped fromSpray
      rw [limit] at stopped
      rw [k.pass]
      refine ⟨framed aside, record, members, stage, starved, by rw [k.panel]; exact fed.raw, fun on => ?_, fun off => ?_⟩
      · obtain ⟨phase, dest, timer⟩ := runs on
        exact ⟨phase, dest, timer, fromSpray on⟩
      · exact stopped off
    · obtain ⟨b, look⟩ := lookConditions_sprayGoesOn (s0 := s) (u := u) (by rw [fed.pass]; exact spray)
        (by rw [fed.starved]; exact h.imp_left stays)
      exact unchanged look
    · obtain ⟨b, look⟩ := lookConditions_resumes served' (changes hc) (by rw [fed.pass]; exact inStarved) up
      rw [look] at k
      obtain ⟨seated, dry, -, short, goesOn⟩ := hr
      obtain ⟨aside, pass, raw⟩ := fed.takenUp seated dry short goesOn k
      rw [pass]
      exact ⟨framed aside, rfl, rfl, rfl, rfl, raw⟩
    · obtain ⟨b, look⟩ := lookConditions_resumes served' (changes hc) (by rw [fed.pass]; exact inStarved) up
      rw [look] at k
      exact fed.drained seated dry present unaborted reached sprays k
    · obtain ⟨b, look⟩ := lookConditions_starvedGoesOn (s0 := s) (u := u) (by rw [fed.pass]; exact inStarved)
        (h.imp_left stays)
      exact unchanged look
  · obtain ⟨p, head, probe, taken⟩ := exec_starvedRunDown_end running hc runDown
    have seated' : unseated (s.setPanel p) = unseated s := unseated_congr rfl head
    refine ⟨_, taken, fun resumes hr => ?_, fun reached seated present unaborted sprays => ?_⟩
    · obtain ⟨seated, dry, -, short, goesOn⟩ := hr
      have dry' : flooded (s.setPanel p) = flooded s := flooded_congr rfl probe
      rw [endRunDown_resumed (s := s.setPanel p) dest short resumes,
        runSpray_eq (s := s.setPanel p) (seated'.trans seated) (dry'.trans dry) short goesOn]
      have k := conclude_same s (spraying (s.setPanel p))
        (starveInputs_spraying (s := s.setPanel p) (by simp [formed, runDown]))
      rw [k.pass]
      exact ⟨rfl, rfl, rfl, rfl, by rw [k.panel]; rfl, k.job, k.sameDiuFillFaults rfl rfl rfl, k.sameModule (.refl s),
        k.sending rfl⟩
    · obtain ⟨i, l, list⟩ := unpassed_of_spraying sprays
      rw [endRunDown_reached (s := s.setPanel p) dest reached,
        enterDrain_eq (s := s.setPanel p) (seated'.trans seated) present list, list]
      obtain ⟨job, fill, faults, line⟩ := drainEntered_frame i (i :: l) (s.setPanel p)
      obtain ⟨phase, members, -, drainList, draining, window, raw, module⟩ :=
        drainStands_frame i (i :: l) (s.setPanel p)
      have k := conclude_phase s (openedDrain i (standInDrain (i :: l) (s.setPanel p))) (by rw [phase]; exact nofun)
        (by rw [phase]; exact nofun)
      generalize conclude s (openedDrain i (standInDrain (i :: l) (s.setPanel p))) = t at k
      have line' : Sending s.line.fifo s t := by
        obtain ⟨fifo, bus⟩ := k.line
        exact ⟨fifo.trans (congrArg YardLine.fifo line), bus.trans (congrArg YardLine.bus line)⟩
      rw [k.pass, k.diu, k.panel, drainList, draining, window]
      exact ⟨phase, rfl, rfl, rfl, members, raw, k.job.trans job, k.fill.trans fill, k.faults.trans faults,
        k.sameModule module, line'⟩

end

section
/-! SUPPORT. A member's retirement in the middle of a stage run (R95, R96), and what it leads to (R68, R97, R98). -/

namespace Sys2Proof.Machine

variable {s t u v : State} {code : Code} {i : Nat} {m : Member}

/-! ## The retirement (R95, R96) -/

/-- A member marked. -/
def markMember (code : Code) (m : Member) : Member := { m with retiring := some code, passed := false }

/-- The members with that of index `i` marked. -/
def markOne (code : Code) (i : Nat) (l : List Member) : List Member :=
  l.map (fun x => if x.index = i then markMember code x else x)

/-- The pass with that member marked. -/
def markedPass (code : Code) (i : Nat) (late : Late) (p : Pass) : Pass :=
  { p with members := markOne code i p.members, late := late }

/-- A member that is not to leave at once is marked and waits for its drain turn. -/
theorem retire_marks (hm : member? s.pass i = some m) (goesOn : m.retiring = none)
    (waits : leavesAtOnce false m s = false) (own : ownWindowOpen i s = false) :
    retire false code i s = s.setPass (markedPass code i (lateOfRetiring i s) s.pass) := by
  unfold retire
  rw [hm]
  dsimp only
  rw [if_neg (by simp [goesOn]), if_neg (ne_true_of_eq_false waits), if_neg (ne_true_of_eq_false own)]
  rfl

theorem retire_leaves (hm : member? s.pass i = some m) (goesOn : m.retiring = none)
    (leaves : leavesAtOnce false m s = true) :
    retire false code i s = checkedAfter (without code m (notedLate code m s) s) := by
  have goes : ¬ m.retiring.isSome = true := by simp [goesOn]
  have leaves' : leavesAtOnce true m s = true := by simp [leavesAtOnce]
  rw [← retire_atWindowEnd hm goesOn]
  unfold retire
  rw [hm]
  dsimp only
  rw [if_neg goes, if_pos leaves, if_neg goes, if_pos leaves']

theorem waits_of_wetted (wetted : m.wetted = true) : leavesAtOnce false m s = false := by simp [leavesAtOnce, wetted]

theorem leaves_of_dry (unwetted : m.wetted = false) (notDry : s.pass.phase ≠ .dry)
    (own : ownWindowOpen m.index s = false) : leavesAtOnce false m s = true := by
  simp [leavesAtOnce, unwetted, notDry, own]

/-! ## Members of a pass with one marked -/

theorem mem_markOne {l : List Member} {x : Member} (hx : x ∈ markOne code i l) :
    (x ∈ l ∧ x.index ≠ i) ∨ ∃ y ∈ l, y.index = i ∧ x = markMember code y := by
  obtain ⟨y, hy, rfl⟩ := List.mem_map.mp hx
  by_cases own : y.index = i
  · exact .inr ⟨y, hy, own, if_pos own⟩
  · exact .inl (by rw [if_neg own]; exact ⟨hy, own⟩)

theorem mem_markOne_other {l : List Member} {x : Member} (hx : x ∈ l) (other : x.index ≠ i) : x ∈ markOne code i l :=
  List.mem_map.mpr ⟨x, hx, if_neg other⟩

theorem mem_markOne_own {l : List Member} {x : Member} (hx : x ∈ l) (own : x.index = i) :
    markMember code x ∈ markOne code i l :=
  List.mem_map.mpr ⟨x, hx, if_pos own⟩

/-- A member marked sprays no more. -/
theorem spraying_markOne (l : List Member) : ((markOne code i l).filter (fun m => !m.passed && m.retiring.isNone)).length
    ≤ (l.filter (fun m => !m.passed && m.retiring.isNone)).length := by
  induction l with
  | nil => exact le_rfl
  | cons m l ih =>
    by_cases own : m.index = i
    · have gone : markOne code i (m :: l) = markMember code m :: markOne code i l := by
        rw [markOne, List.map_cons, if_pos own]
        rfl
      rw [gone, List.filter_cons_of_neg (by simp [markMember])]
      exact ih.trans ((List.sublist_cons_self m l).filter _).length_le
    · have stays : markOne code i (m :: l) = m :: markOne code i l := by
        rw [markOne, List.map_cons, if_neg own]
        rfl
      rw [stays, List.filter_cons, List.filter_cons]
      split
      · exact Nat.succ_le_succ ih
      · exact ih

/-! ## What retirements leave -/

/-- `u` is `v` but for members that have retired: those gone, their records, the marks and the DIU's histories. -/
structure Retired (v u : State) : Prop where
  phase : u.pass.phase = v.pass.phase
  stage : u.pass.stage = v.pass.stage
  recipe : u.pass.recipeData = v.pass.recipeData
  abort : u.pass.abortCode = v.pass.abortCode
  fewer : (sprayingMembers u.pass).length ≤ (sprayingMembers v.pass).length
  channels : u.diu.c = v.diu.c ∧ u.diu.t = v.diu.t
  share : u.share = v.share
  fill : u.fill = v.fill
  faults : u.faults = v.faults
  line : u.line = v.line
  panel : u.panel = v.panel
  module : SameModule v u

theorem Retired.refl (s : State) : Retired s s :=
  ⟨rfl, rfl, rfl, rfl, le_rfl, ⟨rfl, rfl⟩, rfl, rfl, rfl, rfl, rfl, .refl s⟩

theorem Retired.trans (h : Retired s v) (k : Retired v u) : Retired s u where
  phase := k.phase.trans h.phase
  stage := k.stage.trans h.stage
  recipe := k.recipe.trans h.recipe
  abort := k.abort.trans h.abort
  fewer := k.fewer.trans h.fewer
  channels := ⟨k.channels.1.trans h.channels.1, k.channels.2.trans h.channels.2⟩
  share := k.share.trans h.share
  fill := k.fill.trans h.fill
  faults := k.faults.trans h.faults
  line := k.line.trans h.line
  panel := k.panel.trans h.panel
  module := h.module.trans k.module

theorem marked_retired (late : Late) (v : State) : Retired v (v.setPass (markedPass code i late v.pass)) :=
  ⟨rfl, rfl, rfl, rfl, spraying_markOne _, ⟨rfl, rfl⟩, rfl, rfl, rfl, rfl, rfl, .refl v⟩

theorem without_retired (late : Late) (v : State) : Retired v (without code m late v) where
  phase := rfl
  stage := rfl
  recipe := rfl
  abort := rfl
  fewer := (List.filter_sublist.filter _).length_le
  channels := ⟨rfl, rfl⟩
  share := rfl
  fill := rfl
  faults := rfl
  line := rfl
  panel := rfl
  module := .refl v

theorem keepWatch_retired (v : State) : Retired v (keepWatch v) :=
  ⟨rfl, rfl, rfl, rfl, le_rfl, ⟨rfl, rfl⟩, rfl, rfl, rfl, rfl, rfl, .refl v⟩

theorem Retired.namedAbsent (h : Retired v u) : Machine.namedAbsent u = Machine.namedAbsent v := by
  unfold Machine.namedAbsent stageOf recipeOf
  rw [h.stage, h.recipe, h.channels.1, h.channels.2]

/-- With fewer members to spray on, the share that has sufficed suffices (R65, R86). -/
theorem Retired.starvation (h : Retired v u) (suffices' : Machine.starvation v = false) :
    Machine.starvation u = false := by
  have flow : halfNominal u.pass ≤ halfNominal v.pass := by
    unfold halfNominal nominalFlow stageOf recipeOf
    rw [h.stage, h.recipe]
    exact Nat.div_le_div_right (Nat.succ_le_succ (Nat.mul_le_mul_left _ h.fewer))
  unfold Machine.starvation sumpHigh at suffices' ⊢
  unfold formed stageOf recipeOf at suffices' ⊢
  rw [h.phase, h.stage, h.recipe, h.share, h.module.2.1]
  simp only [Bool.or_eq_false_iff, Bool.and_eq_false_iff, decide_eq_false_iff_not, not_lt] at suffices' ⊢
  obtain ⟨share, high⟩ := suffices'
  exact ⟨share.imp_right (fun enough => flow.trans enough), high⟩

/-- The end of an event in which members have retired, the SPRAY going on without starving. -/
theorem concluded_of_going (s0 : State) (notStarved : u.pass.phase ≠ .starved)
    (suffices' : u.pass.phase = .spray → starvation u = false) : Concluded u (conclude s0 u) := by
  by_cases spray : u.pass.phase = .spray
  · obtain ⟨b, look⟩ := lookConditions_sprayGoesOn (s0 := s0) spray (.inr (.inr (suffices' spray)))
    have k := conclude_look s0 u
    rw [look] at k
    exact reported_concluded b k
  · exact conclude_phase s0 u spray notStarved

/-! ## What retirements lead to (R68, R97, R98) -/

theorem settle_eq (isFormed : formed s.pass) (unaborted : s.pass.abortCode = none) : settle s =
    if s.pass.members = [] then endPass .allRetired [] s
    else if allRetiring s.pass = true then turnToRetiring (keepWatch s)
    else match s.pass.phase with
      | .spray => if volumeReached s.pass then enterDrain (keepWatch s) else s
      | .starved => if volumeReached s.pass then enterDrain s else s
      | _ => s := if_pos ⟨isFormed, by simp [aborting, unaborted]⟩

theorem settle_goesOn (goesOn : ∃ m ∈ s.pass.members, m.retiring = none)
    (short : s.pass.phase = .spray ∨ s.pass.phase = .starved → volumeReached s.pass = false) : settle s = s := by
  obtain ⟨m, hm, goes⟩ := goesOn
  have allGo : ¬ allRetiring s.pass = true := by
    rw [allRetiring, List.all_eq_true]
    intro all
    have := all m hm
    rw [goes] at this
    cases this
  unfold settle
  split
  · rw [if_neg (List.ne_nil_of_mem hm)]
    split
    next spray => exact if_neg (ne_true_of_eq_false (short (.inl spray)))
    next starved => exact if_neg (ne_true_of_eq_false (short (.inr starved)))
    · rfl
  · rfl

theorem settle_reached (unaborted : s.pass.abortCode = none) (goesOn : ∃ m ∈ s.pass.members, m.retiring = none)
    (reached : volumeReached s.pass = true) :
    (s.pass.phase = .spray → settle s = enterDrain (keepWatch s))
    ∧ (s.pass.phase = .starved → settle s = enterDrain s) := by
  obtain ⟨m, hm, goes⟩ := goesOn
  have allGo : ¬ allRetiring s.pass = true := by
    rw [allRetiring, List.all_eq_true]
    intro all
    have := all m hm
    rw [goes] at this
    cases this
  refine ⟨fun phase => ?_, fun phase => ?_⟩
  · rw [settle_eq (by simp [formed, phase]) unaborted, if_neg (List.ne_nil_of_mem hm), if_neg allGo, phase]
    exact if_pos reached
  · rw [settle_eq (by simp [formed, phase]) unaborted, if_neg (List.ne_nil_of_mem hm), if_neg allGo, phase]
    exact if_pos reached

theorem settle_retiring (isFormed : formed s.pass) (unaborted : s.pass.abortCode = none) (some : s.pass.members ≠ [])
    (all : ∀ m ∈ s.pass.members, m.retiring.isSome = true) : settle s = turnToRetiring (keepWatch s) := by
  have allRetire : allRetiring s.pass = true := List.all_eq_true.mpr all
  rw [settle_eq isFormed unaborted, if_neg some, if_pos allRetire]

theorem settle_none (isFormed : formed s.pass) (unaborted : s.pass.abortCode = none) (none : s.pass.members = []) :
    settle s = endPass .allRetired [] s := by
  rw [settle_eq isFormed unaborted, if_pos none]

end Sys2Proof.Machine
end

section
/-! SUPPORT. A line that retires a member (R90, R93). -/

namespace Sys2Proof.Machine

variable {s t u v : State} {k : FaultKind} {i : Nat} {m : Member}

/-- The fault record and the notice after the fault of member `i`, the rest of the state as it was but for lines of
that member. -/
structure Struck (k : FaultKind) (i : Nat) (s v : State) : Prop where
  pass : v.pass = s.pass
  job : v.job = s.job
  diu : v.diu = s.diu
  fill : v.fill = s.fill
  share : v.share = s.share
  module : SameModule s v
  faults : v.faults = { record := some (memberFaultRec k i s), overflow := s.faults.overflow }
  fifo : v.line.fifo = joined [.fault (memberFaultRec k i s)] s
  bus : v.line.bus = s.line.bus
  heads : ∀ j, j ≠ i → headOn v j = headOn s j

theorem lineMask_other {i j : Nat} (first : 1 ≤ j) (other : j ≠ i) : (lineMask i).getLsbD (j - 1) = false := by
  unfold lineMask
  split
  next named =>
    rw [BitVec.getLsbD_shiftLeft]
    by_cases below : j - 1 < i - 1
    · simp [below]
    · have above : j - 1 - (i - 1) ≠ 0 := by omega
      simp [BitVec.getLsbD_one, above]
  · simp

theorem lineOn_off_other {i j : Nat} (l : Lines8) (other : j ≠ i) : lineOn (setLine8 l i false) j = lineOn l j := by
  by_cases first : 1 ≤ j
  · by_cases bit : j - 1 < 8
    · simp only [lineOn, setLine8, Bool.false_eq_true, if_false, BitVec.getLsbD_and, BitVec.getLsbD_not,
        lineMask_other first other, bit, decide_true, Bool.not_false, Bool.and_true]
    · simp only [lineOn, BitVec.getLsbD_of_ge _ (j - 1) (show 8 ≤ j - 1 by omega)]
  · simp only [lineOn, first, decide_false, Bool.false_and]

/-- A watched fault of class 1 strikes a member that goes on: it retires, and what that leads to is looked at. -/
theorem watchMember_strikes {p : Panel} (ofPass : k.source = .pass) (class1 : memberFaultClass k = 1)
    (heads : ∀ j, j ≠ i → lineOn p.level.head j = headOn s j) (unaborted : s.pass.abortCode = none)
    (hm : member? s.pass i = some m) (goesOn : m.retiring = none) (empty : s.faults.record = none)
    (room : FifoBounded s) : ∃ v, watchMember k i (s.setPanel p) = settle (retire false k.code i v)
      ∧ Struck k i s v := by
  obtain ⟨l, raised, fifo, bus⟩ := raiseFault_member (s := s.setPanel p) k i ofPass empty room
  have hm' : member? (s.setPanel p).pass i = some m := hm
  have watched : watchMember k i (s.setPanel p) = settle (memberFault false k i (s.setPanel p)) := by
    unfold watchMember
    rw [hm']
    exact if_neg (by simp [goesOn])
  rw [watched, memberFault_of_going (s := s.setPanel p) false unaborted hm' goesOn, if_neg (by simp [filtered, class1]),
    raised]
  exact ⟨_, rfl, rfl, rfl, rfl, rfl, rfl, .refl s, rfl, fifo, bus, heads⟩

theorem exec_line_strikes {c : Instr} (running : s.power = .running) (unaborted : s.pass.abortCode = none)
    (hm : member? s.pass i = some m) (goesOn : m.retiring = none) (empty : s.faults.record = none)
    (room : FifoBounded s)
    (h : (c = .headSeatedDrop i ∧ k = .headUnseated
        ∧ (s.pass.phase = .flush ∨ s.pass.phase = .spray ∨ s.pass.phase = .drain))
      ∨ (c = .highLevelProbeWet i ∧ k = .overflow ∧ s.pass.phase = .spray ∧ m.passed = false
        ∧ filling? s ≠ some i)) :
    ∃ v, exec c s = .next (conclude s (settle (retire false k.code i v))) ∧ Struck k i s v := by
  obtain ⟨rfl, rfl, phase⟩ | ⟨rfl, rfl, spray, unpassed, notFilling⟩ := h
  · let p := (takeLine (.head i) false s).panel
    have heads (j : Nat) (other : j ≠ i) : lineOn p.level.head j = headOn s j := lineOn_off_other _ other
    obtain ⟨v, watched, struck⟩ :=
      watchMember_strikes (s := s) (k := .headUnseated) (p := p) rfl rfl heads unaborted hm goesOn empty room
    have taken : takeHeadDrop i (takeLine (.head i) false s) = watchMember .headUnseated i (s.setPanel p) := by
      have same : (takeLine (.head i) false s).pass.phase = s.pass.phase := rfl
      unfold takeHeadDrop
      rw [same]
      obtain phase | phase | phase := phase <;> rw [phase] <;> rfl
    exact ⟨v, by rw [exec_headSeatedDrop running, taken, watched], struck⟩
  · let p := (takeLine (.probe i) true s).panel
    obtain ⟨v, watched, struck⟩ :=
      watchMember_strikes (s := s) (k := .overflow) (p := p) rfl rfl (fun _ _ => rfl) unaborted hm goesOn empty room
    have sprays : (sprayingMembers s.pass).any (fun m => m.index == i) = true := by
      refine List.any_eq_true.mpr ⟨m, List.mem_filter.mpr ⟨List.mem_of_find?_eq_some hm, ?_⟩, ?_⟩
      · simp [unpassed, goesOn]
      · simp [member?_index hm]
    have taken : takeProbeWet i (takeLine (.probe i) true s) = watchMember .overflow i (s.setPanel p) := by
      have same : (takeLine (.probe i) true s).pass.phase = s.pass.phase := rfl
      unfold takeProbeWet
      rw [same, spray]
      exact if_pos sprays
    refine ⟨v, ?_, struck⟩
    rw [exec_highLevelProbeWet running notFilling (takeProbeWet_fill i _), taken, watched]

end Sys2Proof.Machine
end

section
/-! SUPPORT. The DRAIN that retirements lead to, to the end of its event (R68, R73, R97). -/

namespace Sys2Proof.Machine

variable {s t u v w : State}

/-- `t` stands in the DRAIN of a SPRAY that has ended in `u`. -/
structure DrainEntered (u t : State) : Prop where
  phase : t.pass.phase = .drain
  members : t.pass.members = u.pass.members
  spray : t.pass.spray = none
  stage : t.pass.stage = u.pass.stage
  list : t.pass.drainList = (u.pass.members.filter (fun m => !m.passed)).map (·.index)
  draining : t.pass.draining = t.pass.drainList.head?
  window : t.diu.window.map (·.member) = t.pass.drainList.head?
  starveTimer : t.pass.starveTimer = none
  steady : t.share.steadyFlag = false
  raw : t.panel.raw.pumpStopped = true
  job : t.job = u.job
  fill : t.fill = u.fill
  faults : t.faults = u.faults
  module : SameModule u t
  line : Sending u.line.fifo u t

theorem SameShare.steadyFlag (h : SameShare s t) : t.share.steadyFlag = s.share.steadyFlag := by rw [h]

/-- The blocks of a DRAIN entered, whatever the state before it. -/
theorem standing_entered (i : Nat) (l : List Nat) (u : State)
    (list : (u.pass.members.filter (fun m => !m.passed)).map (·.index) = i :: l) :
    DrainEntered u (openedDrain i (standInDrain (i :: l) u)) :=
  ⟨rfl, rfl, rfl, rfl, list.symm, rfl, rfl, rfl, rfl, rfl, rfl, rfl, rfl, .refl u, rfl, rfl⟩

theorem DrainEntered.concluded (h : DrainEntered u w) (s0 : State) : DrainEntered u (conclude s0 w) := by
  have k := conclude_phase s0 w (by rw [h.phase]; exact nofun) (by rw [h.phase]; exact nofun)
  exact {
    phase := by rw [k.pass]; exact h.phase
    members := by rw [k.pass]; exact h.members
    spray := by rw [k.pass]; exact h.spray
    stage := by rw [k.pass]; exact h.stage
    list := by rw [k.pass]; exact h.list
    draining := by rw [k.pass]; exact h.draining
    window := by rw [k.pass, k.diu]; exact h.window
    starveTimer := by rw [k.pass]; exact h.starveTimer
    steady := k.share.steadyFlag.trans h.steady
    raw := by rw [k.panel]; exact h.raw
    job := k.job.trans h.job
    fill := k.fill.trans h.fill
    faults := k.faults.trans h.faults
    module := h.module.trans k.module
    line := ⟨k.line.1.trans h.line.1, k.line.2.trans h.line.2⟩ }

/-- What retirements in a SPRAY or a STARVED lead to where the volume that is left to reach has been reached. -/
theorem settle_drains (unaborted : u.pass.abortCode = none) (phase : u.pass.phase = .spray ∨ u.pass.phase = .starved)
    (goesOn : ∃ m ∈ u.pass.members, m.retiring = none) (reached : volumeReached u.pass = true)
    (seated : unseated u = []) (present : namedAbsent u = false) (unpassed : ∃ m ∈ u.pass.members, m.passed = false) :
    DrainEntered u (settle u) := by
  obtain ⟨i, l, list⟩ : ∃ i l, (u.pass.members.filter (fun m => !m.passed)).map (·.index) = i :: l := by
    obtain ⟨m, hm, unpassed⟩ := unpassed
    have mem : m ∈ u.pass.members.filter (fun m => !m.passed) := List.mem_filter.mpr ⟨hm, by simp [unpassed]⟩
    exact List.exists_cons_of_ne_nil (List.ne_nil_of_mem (List.mem_map_of_mem mem))
  obtain ⟨spray, starved⟩ := settle_reached unaborted goesOn reached
  obtain phase | phase := phase
  · rw [spray phase, enterDrain_eq (s := keepWatch u) seated present list]
    have entered := standing_entered i l (keepWatch u) list
    exact { entered with }
  · rw [starved phase, enterDrain_eq seated present list]
    exact standing_entered i l u list

/-- `t` stands in the DRAIN of the retiring members that `u` has left. -/
structure RetiringDrained (u t : State) : Prop where
  phase : t.pass.phase = .drain
  members : t.pass.members = u.pass.members
  spray : t.pass.spray = none
  stage : t.pass.stage = u.pass.stage
  repeats : t.pass.repeats = u.pass.repeats
  pendingHold : t.pass.pendingHold = u.pass.pendingHold
  holdTimer : t.pass.holdTimer = none
  starveTimer : t.pass.starveTimer = none
  list : t.pass.drainList = u.pass.members.map (·.index)
  draining : t.pass.draining = t.pass.drainList.head?
  window : t.diu.window.map (fun w => (w.member, w.inspected)) = t.pass.drainList.head?.map (·, false)
  clock : t.diu.clock = 250
  records : u.pass.phase = .flush → t.diu.flushC = ⟨0, 0⟩ ∧ t.diu.flushT = ⟨0, 0⟩
  bases : t.diu.baseC = u.diu.baseC ∧ t.diu.baseT = u.diu.baseT
  steady : t.share.steadyFlag = false
  raw : t.panel.raw.pumpStopped = true
  job : t.job = u.job
  fill : t.fill = u.fill
  faults : t.faults = u.faults
  module : SameModule u t
  line : Sending u.line.fifo u t

theorem RetiringDrained.concluded (h : RetiringDrained u w) (s0 : State) : RetiringDrained u (conclude s0 w) := by
  have k := conclude_phase s0 w (by rw [h.phase]; exact nofun) (by rw [h.phase]; exact nofun)
  exact {
    phase := by rw [k.pass]; exact h.phase
    members := by rw [k.pass]; exact h.members
    spray := by rw [k.pass]; exact h.spray
    stage := by rw [k.pass]; exact h.stage
    repeats := by rw [k.pass]; exact h.repeats
    pendingHold := by rw [k.pass]; exact h.pendingHold
    holdTimer := by rw [k.pass]; exact h.holdTimer
    starveTimer := by rw [k.pass]; exact h.starveTimer
    list := by rw [k.pass]; exact h.list
    draining := by rw [k.pass]; exact h.draining
    window := by rw [k.pass, k.diu]; exact h.window
    clock := by rw [k.diu]; exact h.clock
    records := by rw [k.diu]; exact h.records
    bases := by rw [k.diu]; exact h.bases
    steady := k.share.steadyFlag.trans h.steady
    raw := by rw [k.panel]; exact h.raw
    job := k.job.trans h.job
    fill := k.fill.trans h.fill
    faults := k.faults.trans h.faults
    module := h.module.trans k.module
    line := ⟨k.line.1.trans h.line.1, k.line.2.trans h.line.2⟩ }

theorem drainRetiring_drained {m : Member} {l : List Member} (members : u.pass.members = m :: l)
    (retiring : m.retiring.isSome = true) : RetiringDrained u (drainRetiring u) := by
  rw [drainRetiring_eq members retiring]
  have uninspected : inspectedFor m.index u.pass = false :=
    inspectedFor_of_retiring _ (member?_of_head members) retiring
  have first : (u.pass.members.map (·.index)).head? = some m.index := by rw [members]; rfl
  have records : u.pass.phase = .flush →
      (leaveFlush u).diu.flushC = ⟨0, 0⟩ ∧ (leaveFlush u).diu.flushT = ⟨0, 0⟩ := by
    intro flush
    have inFlush' : inFlush u.pass = true := by simp [inFlush, flush]
    rw [leaveFlush_of_inFlush _ inFlush']
    exact ⟨rfl, rfl⟩
  have bases : (leaveFlush u).diu.baseC = u.diu.baseC ∧ (leaveFlush u).diu.baseT = u.diu.baseT := by
    unfold leaveFlush
    split <;> exact ⟨rfl, rfl⟩
  obtain ⟨d, left⟩ := leaveFlush_eq_setDiu u
  rw [left] at records bases ⊢
  exact {
    phase := rfl, members := rfl, spray := rfl, stage := rfl, repeats := rfl, pendingHold := rfl, holdTimer := rfl
    starveTimer := rfl, list := rfl, draining := first.symm
    window := by
      show some (m.index, inspectedFor m.index u.pass) = ((u.pass.members.map (·.index)).head?).map (·, false)
      rw [first, uninspected]
      rfl
    clock := rfl, records := records, bases := bases, steady := rfl, raw := rfl, job := rfl, fill := rfl
    faults := rfl, module := .refl u, line := ⟨rfl, rfl⟩ }

/-- With every member left retiring, FLUSH, SPRAY, DRY, HELD and STARVED end in the draining of them (R97). -/
theorem settle_drainsRetiring (unaborted : u.pass.abortCode = none) (some : u.pass.members ≠ [])
    (all : ∀ m ∈ u.pass.members, m.retiring.isSome = true)
    (phase : u.pass.phase = .flush ∨ u.pass.phase = .spray ∨ u.pass.phase = .dry ∨ u.pass.phase = .held
      ∨ u.pass.phase = .starved) : RetiringDrained u (settle u) := by
  obtain ⟨m, l, members⟩ := List.exists_cons_of_ne_nil some
  have isFormed : formed u.pass := by
    obtain phase | phase | phase | phase | phase := phase <;> simp [formed, phase]
  have turned : settle u = drainRetiring (keepWatch u) := by
    have same : (keepWatch u).pass.phase = u.pass.phase := rfl
    rw [settle_retiring isFormed unaborted some all]
    unfold turnToRetiring
    rw [same]
    obtain phase | phase | phase | phase | phase := phase <;> rw [phase]
  have drained : RetiringDrained (keepWatch u) (drainRetiring (keepWatch u)) :=
    drainRetiring_drained members (all m (by rw [members]; exact List.mem_cons_self))
  rw [turned]
  exact { drained with }

end Sys2Proof.Machine
end

section
/-! SUPPORT. A member struck: what it leaves, by its wetted mark (R95, R96, R98). -/

namespace Sys2Proof.Machine

variable {s t u v : State} {k : FaultKind} {i : Nat} {m : Member}

/-- To the end of the event: the fault recorded, its notice queued. -/
theorem Struck.ended (h : Struck k i s v) (r : Retired v u) (faults : t.faults = u.faults) (module : SameModule u t)
    (line : Sending u.line.fifo u t) :
    t.faults = { record := some (memberFaultRec k i s), overflow := s.faults.overflow } ∧ SameModule s t
    ∧ Sending (joined [.fault (memberFaultRec k i s)] s) s t := by
  refine ⟨(faults.trans r.faults).trans h.faults, (h.module.trans r.module).trans module, ?_, ?_⟩
  · rw [line.1, r.line, h.fifo]
  · rw [line.2, r.line, h.bus]

theorem Struck.share_ended (h : Struck k i s v) (r : Retired v u) (c : Concluded u t) : SameShare s t :=
  c.sameShare (r.share.trans h.share)

theorem Struck.starvation (h : Struck k i s v) : Machine.starvation v = Machine.starvation s :=
  starvation_congr h.pass h.module.2.1 (by rw [h.share]) (by rw [h.share])

theorem Struck.namedAbsent (h : Struck k i s v) : Machine.namedAbsent v = Machine.namedAbsent s :=
  namedAbsent_congr h.pass h.diu

/-- With the heads of those that go on seated none is found unseated. -/
theorem unseated_nil (seated : ∀ m ∈ u.pass.members, m.retiring = none → headOn u m.index = true) : unseated u = [] := by
  unfold unseated
  rw [List.map_eq_nil_iff, List.filter_eq_nil_iff]
  intro m hm unseated'
  simp only [Bool.and_eq_true, Bool.not_eq_true', Option.isNone_iff_eq_none] at unseated'
  rw [seated m hm unseated'.1] at unseated'
  exact nomatch unseated'.2

/-- The members other than that of index `i`. -/
def othersOf (i : Nat) (p : Pass) : List Member := p.members.filter (fun x => x.index != i)

theorem mem_othersOf {p : Pass} {x : Member} : x ∈ othersOf i p ↔ x ∈ p.members ∧ x.index ≠ i := by
  simp [othersOf]

/-! ## Marked -/

/-- The state with the member marked. -/
def struckMarked (code : Code) (i : Nat) (v : State) : State :=
  v.setPass (markedPass code i (lateOfRetiring i v) v.pass)

theorem struckMarked_retired (code : Code) (i : Nat) (v : State) : Retired v (struckMarked code i v) := marked_retired _ v

theorem mem_struckMarked_other {code : Code} {x : Member} (hx : x ∈ othersOf i v.pass) :
    x ∈ (struckMarked code i v).pass.members := by
  obtain ⟨hx, other⟩ := mem_othersOf.mp hx
  exact mem_markOne_other hx other

theorem mem_struckMarked {code : Code} {x : Member} (hx : x ∈ (struckMarked code i v).pass.members) :
    x ∈ othersOf i v.pass ∨ (x.retiring = some code ∧ x.passed = false) := by
  obtain ⟨hx, other⟩ | ⟨y, -, -, rfl⟩ := mem_markOne hx
  · exact .inl (mem_othersOf.mpr ⟨hx, other⟩)
  · exact .inr ⟨rfl, rfl⟩

theorem struckMarked_goes {code : Code} (h : ∃ x ∈ othersOf i v.pass, x.retiring = none) :
    ∃ x ∈ (struckMarked code i v).pass.members, x.retiring = none := by
  obtain ⟨x, hx, goes⟩ := h
  exact ⟨x, mem_struckMarked_other hx, goes⟩

theorem struckMarked_unpassed (code : Code) (hm : member? v.pass i = some m) :
    ∃ x ∈ (struckMarked code i v).pass.members, x.passed = false :=
  ⟨_, mem_markOne_own (List.mem_of_find?_eq_some hm) (member?_index hm), rfl⟩

theorem struckMarked_other {code : Code} {x : Member} (hx : x ∈ (struckMarked code i v).pass.members)
    (goes : x.retiring = none) : x ∈ othersOf i v.pass := by
  obtain other | ⟨retiring, -⟩ := mem_struckMarked hx
  · exact other
  · rw [retiring] at goes
    cases goes

theorem Struck.marked_pass (h : Struck k i s v) : (struckMarked k.code i v).pass
    = { s.pass with members := markOne k.code i s.pass.members, late := lateOfRetiring i v } := by
  rw [← h.pass]
  rfl

/-! ## Gone -/

/-- The state with the member gone. -/
def struckGone (code : Code) (m : Member) (v : State) : State := without code m (notedLate code m v) v

theorem struckGone_retired (code : Code) (m : Member) (v : State) : Retired v (struckGone code m v) := without_retired _ v

theorem Struck.gone_pass (h : Struck k i s v) (hm : member? s.pass i = some m) :
    (struckGone k.code m v).pass = { s.pass with
      members := othersOf i s.pass, drainList := s.pass.drainList.filter (fun j => j != i)
      departed := insertResult { index := i, outcome := .retired k.code, own := m.own } s.pass.departed
      late := notedLate k.code m v } := by
  rw [← member?_index hm, ← h.pass]
  rfl

theorem Struck.gone_left (h : Struck k i s v) (hm : member? s.pass i = some m) :
    (notedLate k.code m v).left = s.pass.late.left
      ++ [{ member := { m with retiring := some k.code, passed := false }, mark := keyMarkOf s i }] := by
  have mark : keyMarkOf v i = keyMarkOf s i := by unfold keyMarkOf compartment?; rw [h.job]
  rw [← mark, ← member?_index hm, ← h.pass]
  rfl

theorem Struck.gone_diu (h : Struck k i s v) (hm : member? s.pass i = some m) : (struckGone k.code m v).diu
    = { s.diu with histories := s.diu.histories.filter (fun h => h.index != i) } := by
  rw [← h.diu, ← member?_index hm]
  rfl

/-- HEAD_UNSEATED restores the member's record, OVERFLOW rejects its compartment (R94). -/
theorem Struck.gone_job (h : Struck k i s v) (hm : member? s.pass i = some m)
    (ofLine : k = .headUnseated ∨ k = .overflow) : (struckGone k.code m v).job
      = { s.job with table := s.job.table.map (fun x => if x.index = i then
          (if k = .overflow then { x with state := .rejected, keyMark := .none }
           else { x with state := m.ckState, lastClass := m.ckClass, keyMark := .none })
        else x) } := by
  rw [← member?_index hm, ← h.job]
  obtain rfl | rfl := ofLine <;> rfl

/-- A member that leaves with another compartment going on, or as the last, leads to no end of the job. -/
theorem retire_gone {code : Code} (hm : member? v.pass i = some m) (goesOn : m.retiring = none)
    (unwetted : m.wetted = false) (notDry : v.pass.phase ≠ .dry) (own : ownWindowOpen i v = false)
    (h : othersOf i v.pass = [] ∨ ∃ x ∈ v.job.table, x.index ≠ i ∧ terminal x = false) :
    retire false code i v = struckGone code m v := by
  obtain rfl := member?_index hm
  rw [retire_leaves hm goesOn (leaves_of_dry unwetted notDry own)]
  exact checkedAfter_of_incomplete (h.imp id incomplete_without)

theorem turnToRetiring_inDrain (drain : v.pass.phase = .drain) : turnToRetiring (keepWatch v) = keepWatch v := by
  have same : (keepWatch v).pass.phase = .drain := drain
  unfold turnToRetiring
  rw [same]

end Sys2Proof.Machine
end

section
open Sys2Proof Sys2Proof.Machine

/-- Settles O22: the member is marked or gone, and the members that are left decide what that leads to. -/
theorem linesRetireTheirMember : Obligations.LinesRetireTheirMember := by
  unfold Obligations.LinesRetireTheirMember
  intro c k i m s running unaborted hm goesOn _ own empty room hc suffices' f marked others recorded drains outcome
  obtain ⟨v, taken, struck⟩ := exec_line_strikes running unaborted hm goesOn empty room hc
  have phase : s.pass.phase = .flush ∨ s.pass.phase = .spray ∨ s.pass.phase = .drain := by
    obtain ⟨-, -, phase⟩ | ⟨-, -, spray, -⟩ := hc
    · exact phase
    · exact .inr (.inl spray)
  have ofLine : k = .headUnseated ∨ k = .overflow := by
    obtain ⟨-, rfl, -⟩ | ⟨-, rfl, -⟩ := hc
    · exact .inl rfl
    · exact .inr rfl
  have hm' : member? v.pass i = some m := by rw [struck.pass]; exact hm
  have own' : ownWindowOpen i v = false := by rw [ownWindowOpen, struck.diu]; exact own
  have unaborted' : v.pass.abortCode = none := by rw [struck.pass]; exact unaborted
  have isOthers : othersOf i v.pass = others := by rw [struck.pass]; rfl
  have seated' (seated : ∀ x ∈ others, x.retiring = none → headOn s x.index = true) {u : State}
      (r : Retired v u) (h : ∀ x ∈ u.pass.members, x.retiring = none → x ∈ others) : unseated u = [] := by
    refine unseated_nil (fun x hx goes => ?_)
    have other := h x hx goes
    have line : headOn u x.index = headOn v x.index := by unfold headOn; rw [r.panel]
    rw [line, struck.heads _ (by simpa [others] using (List.mem_filter.mp other).2)]
    exact seated x other goes
  have going {u : State} (r : Retired v u) : Concluded u (conclude s u) := by
    have samePhase : u.pass.phase = s.pass.phase := by rw [r.phase, struck.pass]
    refine concluded_of_going s ?_ (fun spray => r.starvation (struck.starvation.trans (suffices' (samePhase ▸ spray))))
    rw [samePhase]
    obtain phase | phase | phase := phase <;> rw [phase] <;> exact nofun
  have markedIs : (struckMarked k.code i v).pass = { s.pass with members := marked, late := lateOfRetiring i v } :=
    struck.marked_pass
  have markedRetired := struckMarked_retired k.code i v
  have marks (wetted : m.wetted = true) : retire false k.code i v = struckMarked k.code i v :=
    retire_marks hm' goesOn (waits_of_wetted wetted) own'
  have markedGoes (h : ∃ x ∈ others, x.retiring = none) :
      ∃ x ∈ (struckMarked k.code i v).pass.members, x.retiring = none := struckMarked_goes (isOthers ▸ h)
  have markedUnpassed := struckMarked_unpassed k.code hm'
  have notStarved : s.pass.phase ≠ .starved := by
    obtain phase | phase | phase := phase <;> rw [phase] <;> exact nofun
  have markedShort (h : s.pass.phase = .spray → volumeReached { s.pass with members := marked } = false)
      (phase : (struckMarked k.code i v).pass.phase = .spray ∨ (struckMarked k.code i v).pass.phase = .starved) :
      volumeReached (struckMarked k.code i v).pass = false := by
    rw [markedIs] at phase ⊢
    exact h (phase.resolve_right notStarved)
  have notDry : v.pass.phase ≠ .dry := by
    rw [struck.pass]
    obtain phase | phase | phase := phase <;> rw [phase] <;> exact nofun
  have leaves (unwetted : m.wetted = false) (h : others = [] ∨ ∃ x ∈ s.job.table, x.index ≠ i ∧ terminal x = false) :
      retire false k.code i v = struckGone k.code m v :=
    retire_gone hm' goesOn unwetted notDry own' (by rw [isOthers, struck.job]; exact h)
  have goneRetired := struckGone_retired k.code m v
  have goneIs : (struckGone k.code m v).pass = { s.pass with
      members := others, drainList := s.pass.drainList.filter (fun j => j != i)
      departed := insertResult { index := i, outcome := .retired k.code, own := m.own } s.pass.departed
      late := notedLate k.code m v } := struck.gone_pass hm
  have goneJob : (struckGone k.code m v).job = { s.job with table := s.job.table.map outcome } := struck.gone_job hm ofLine
  have goneDiu := struck.gone_diu hm
  have goneGoes (h : ∃ x ∈ others, x.retiring = none) :
      ∃ x ∈ (struckGone k.code m v).pass.members, x.retiring = none := by rw [goneIs]; exact h
  have goneShort (h : s.pass.phase = .spray → volumeReached { s.pass with members := others } = false)
      (phase : (struckGone k.code m v).pass.phase = .spray ∨ (struckGone k.code m v).pass.phase = .starved) :
      volumeReached (struckGone k.code m v).pass = false := by
    rw [goneIs] at phase ⊢
    exact h (phase.resolve_right notStarved)
  have drainsTo {u t : State} {l : List Member} (r : Retired v u) (members : u.pass.members = l) (d : DrainEntered u t) :
      drains l t := by
    subst members
    obtain ⟨fault, module, line⟩ := struck.ended r d.faults d.module d.line
    exact ⟨d.phase, d.members, d.spray, d.stage.trans (r.stage.trans (congrArg Pass.stage struck.pass)), d.list,
      d.draining, d.window, d.steady, d.raw, fault, module, line⟩
  refine ⟨_, taken, ?_, ?_, ?_, ?_, ?_, ?_⟩
  · obtain ⟨-, -, fill, -⟩ := conclude_reader s (settle (retire false k.code i v))
    exact fill.trans ((settle_work (retire_work (Work.refl v) _ _ _)).fill.trans struck.fill)
  · intro wetted goes short
    rw [marks wetted, settle_goesOn (markedGoes goes) (markedShort short)]
    have ended := going markedRetired
    generalize conclude s (struckMarked k.code i v) = t at ended
    obtain ⟨fault, module, line⟩ := struck.ended markedRetired ended.faults ended.module ended.line
    refine ⟨?_, ended.job.trans struck.job, ended.diu.trans struck.diu, fault, struck.share_ended markedRetired ended,
      module, line⟩
    rw [ended.pass, markedIs]
  · intro unwetted goes short other
    rw [leaves unwetted (.inr other), settle_goesOn (goneGoes goes) (goneShort short)]
    have ended := going goneRetired
    generalize conclude s (struckGone k.code m v) = t at ended
    obtain ⟨fault, module, line⟩ := struck.ended goneRetired ended.faults ended.module ended.line
    refine ⟨?_, ?_, ended.job.trans goneJob, ended.diu.trans goneDiu, fault, struck.share_ended goneRetired ended, module,
      line⟩
    · rw [ended.pass, goneIs]
    · rw [ended.pass, goneIs]
      exact struck.gone_left hm
  · intro spray goes seated present
    refine ⟨fun wetted reached => ?_, fun unwetted reached unpassed other => ?_⟩
    · rw [marks wetted]
      have drained := (settle_drains (u := struckMarked k.code i v) (markedRetired.abort.trans unaborted')
        (.inl (by rw [markedIs]; exact spray)) (markedGoes goes) (by rw [markedIs]; exact reached)
        (seated' seated markedRetired (fun _ hx goes => isOthers ▸ struckMarked_other hx goes))
        (markedRetired.namedAbsent.trans (struck.namedAbsent.trans present))
        markedUnpassed).concluded s
      generalize conclude s (settle (struckMarked k.code i v)) = t at drained
      exact ⟨drainsTo markedRetired (by rw [markedIs]) drained, drained.job.trans struck.job⟩
    · rw [leaves unwetted (.inr other)]
      have drained := (settle_drains (u := struckGone k.code m v) (goneRetired.abort.trans unaborted')
        (.inl (by rw [goneIs]; exact spray)) (goneGoes goes) (by rw [goneIs]; exact reached)
        (seated' seated goneRetired (by rw [goneIs]; exact fun _ hx _ => hx))
        (goneRetired.namedAbsent.trans (struck.namedAbsent.trans present)) (by rw [goneIs]; exact unpassed)).concluded s
      generalize conclude s (settle (struckGone k.code m v)) = t at drained
      exact ⟨drainsTo goneRetired (by rw [goneIs]) drained, drained.job.trans goneJob⟩
  · intro wetted all
    rw [marks wetted]
    have some : (struckMarked k.code i v).pass.members ≠ [] := by
      obtain ⟨x, hx, -⟩ := markedUnpassed
      exact List.ne_nil_of_mem hx
    have all' : ∀ x ∈ (struckMarked k.code i v).pass.members, x.retiring.isSome = true := by
      intro x hx
      obtain other | ⟨retiring, -⟩ := mem_struckMarked hx
      · exact all x (isOthers ▸ other)
      · rw [retiring]; rfl
    refine ⟨fun drain => ?_, fun phase => ?_⟩
    · have drain' : (struckMarked k.code i v).pass.phase = .drain := by rw [markedIs]; exact drain
      have turned : settle (struckMarked k.code i v) = keepWatch (struckMarked k.code i v) := by
        rw [settle_retiring (by simp [formed, drain']) (markedRetired.abort.trans unaborted') some all']
        exact turnToRetiring_inDrain drain'
      have retired := markedRetired.trans (keepWatch_retired (struckMarked k.code i v))
      rw [turned]
      have ended := going retired
      generalize conclude s (keepWatch (struckMarked k.code i v)) = t at ended
      obtain ⟨fault, module, line⟩ := struck.ended retired ended.faults ended.module ended.line
      refine ⟨?_, ended.job.trans struck.job, ended.diu.trans struck.diu, fault, module, line⟩
      rw [ended.pass, keepWatch, markedIs]
      rfl
    · have drained := (settle_drainsRetiring (u := struckMarked k.code i v) (markedRetired.abort.trans unaborted') some all'
        (by rw [markedIs]; exact phase.imp_right .inl)).concluded s
      generalize conclude s (settle (struckMarked k.code i v)) = t at drained
      obtain ⟨fault, module, line⟩ := struck.ended markedRetired drained.faults drained.module drained.line
      have members : (struckMarked k.code i v).pass.members = marked := by rw [markedIs]
      have stage : (struckMarked k.code i v).pass.stage = s.pass.stage := by rw [markedIs]
      have repeats : (struckMarked k.code i v).pass.repeats = s.pass.repeats := by rw [markedIs]
      have samePhase : (struckMarked k.code i v).pass.phase = s.pass.phase := by rw [markedIs]
      have list := drained.list
      have bases := drained.bases
      rw [members] at list
      rw [show (struckMarked k.code i v).diu = s.diu from struck.diu] at bases
      exact ⟨drained.phase, drained.members.trans members, list, drained.draining, drained.spray,
        drained.stage.trans stage, drained.repeats.trans repeats, drained.window,
        fun flush => drained.records (samePhase.trans flush), bases.1, bases.2, drained.steady, drained.raw,
        drained.job.trans struck.job, fault, module, line⟩
  · intro unwetted none
    have fifo : (struckGone k.code m v).line.fifo = joined [.fault f] s :=
      (congrArg YardLine.fifo goneRetired.line).trans struck.fifo
    have isNone : (struckGone k.code m v).pass.members = [] := by rw [goneIs]; exact none
    have samePhase : (struckGone k.code m v).pass.phase = s.pass.phase := by rw [goneIs]
    have isFormed : formed (struckGone k.code m v).pass := by
      rw [formed, samePhase]
      obtain phase | phase | phase := phase <;> rw [phase] <;> exact ⟨nofun, nofun⟩
    have number : jobNumber (struckGone k.code m v) = jobNumber s := by rw [jobNumber, goneJob]; rfl
    rw [leaves unwetted (.inl none), settle_none isFormed (goneRetired.abort.trans unaborted') isNone]
    have room' : FifoBounded (struckGone k.code m v) := by rw [FifoBounded, fifo]; exact joined_bounded _ _
    obtain ⟨idle, diu, table, ⟨rest, queued, which⟩, -, faults, -, -, module⟩ :=
      (endPass_ended .allRetired [] room').concluded s
    generalize conclude s (endPass .allRetired [] (struckGone k.code m v)) = t at idle diu table queued faults module
    rw [number] at which
    refine ⟨idle, ?_, (struck.module.trans goneRetired.module).trans module, table.trans (congrArg JobUnit.table goneJob),
      by rw [diu], by rw [diu], _, rest, queued.trans (joined_append fifo _), rfl, ?_, ?_, which⟩
    · exact (faults.trans goneRetired.faults).trans struck.faults
    · show (struckGone k.code m v).pass.number = s.pass.number
      rw [goneIs]
    · show (struckGone k.code m v).pass.departed = _
      rw [goneIs]

end

section
/-! SUPPORT. What the engine's work leaves of the panel and of a full fault record (R63, R82, R182). -/

namespace Sys2Proof.Machine

/-- Of the panel only the raw lines may have changed, and a fault record that is full stands. -/
structure Quiet (s t : State) : Prop where
  panel : t.panel = { s.panel with raw := t.panel.raw }
  faults : s.faults.record.isSome = true → s.faults.overflow = true → t.faults = s.faults

theorem Quiet.refl (s : State) : Quiet s s := ⟨rfl, fun _ _ => rfl⟩

variable {s t : State}

/-! ## Updates of one block -/

theorem Quiet.of_same {u : State} (h : Quiet s t) (panel : u.panel = t.panel) (faults : u.faults = t.faults) :
    Quiet s u := ⟨by rw [panel]; exact h.panel, by rw [faults]; exact h.faults⟩

@[simp] theorem quiet_setPass (p : Pass) : Quiet s (t.setPass p) ↔ Quiet s t :=
  ⟨fun h => h.of_same rfl rfl, fun h => h.of_same rfl rfl⟩

@[simp] theorem quiet_setDiu (d : Diu) : Quiet s (t.setDiu d) ↔ Quiet s t :=
  ⟨fun h => h.of_same rfl rfl, fun h => h.of_same rfl rfl⟩

@[simp] theorem quiet_setJob (j : JobUnit) : Quiet s (t.setJob j) ↔ Quiet s t :=
  ⟨fun h => h.of_same rfl rfl, fun h => h.of_same rfl rfl⟩

@[simp] theorem quiet_setLine (l : YardLine) : Quiet s (t.setLine l) ↔ Quiet s t :=
  ⟨fun h => h.of_same rfl rfl, fun h => h.of_same rfl rfl⟩

@[simp] theorem quiet_setShare (x : Share) : Quiet s (t.setShare x) ↔ Quiet s t :=
  ⟨fun h => h.of_same rfl rfl, fun h => h.of_same rfl rfl⟩

@[simp] theorem quiet_setFree (n : Nat) : Quiet s (t.setFree n) ↔ Quiet s t :=
  ⟨fun h => h.of_same rfl rfl, fun h => h.of_same rfl rfl⟩

section
variable (h : Quiet s t)
include h

theorem pumpPin_quiet (b : Bool) : Quiet s (pumpPin b t) :=
  ⟨congrArg (fun p : Panel => { p with raw := (pumpPin b t).panel.raw }) h.panel, h.faults⟩

@[simp] theorem queueEvent_quiet (n : Notice) : Quiet s (queueEvent n t) := by
  unfold queueEvent
  split <;> simp [h]

/-- A fault raised with the record full leaves it (R94). -/
@[simp] theorem raiseFault_quiet (k : FaultKind) (comp stage : Option Nat) : Quiet s (raiseFault k comp stage t) := by
  refine ⟨?_, fun held full => ?_⟩
  · rw [(raiseFault_rest k comp stage t).1]
    exact h.panel
  · have same := h.faults held full
    rw [raiseFault_held_eq k comp stage (s := t) (by rw [same]; exact held), ← same]
    have isFull : t.faults.overflow = true := by rw [same]; exact full
    show ({ t.faults with overflow := true } : Faults) = t.faults
    rw [← isFull]

/-- Operations over a list, each going on from where the last left off. -/
theorem foldl_quiet {α : Type} (f : State → α → State) (l : List α) (hf : ∀ t, Quiet s t → ∀ a, Quiet s (f t a)) :
    Quiet s (l.foldl f t) := by
  induction l generalizing t with
  | nil => exact h
  | cons a l ih => exact ih (hf t h a)

/-! ## The job unit and the DIU -/

@[simp] theorem queueEvents_quiet (l : List Notice) : Quiet s (queueEvents l t) :=
  foldl_quiet h _ _ (fun _ h _ => queueEvent_quiet h _)

@[simp] theorem closeCheck_quiet : Quiet s (closeCheck t) := by
  unfold closeCheck
  dsimp only
  repeat' split
  all_goals simp [h]

@[simp] theorem releaseCheck_quiet : Quiet s (releaseCheck t) := by
  unfold releaseCheck
  split <;> simp [finishRelease, h]

@[simp] theorem requestOutcome_quiet (code : Code) (m : Member) : Quiet s (requestOutcome code m t) := by
  simp [requestOutcome_eq, updCompartment_eq, h]

@[simp] theorem recordFlush_quiet : Quiet s (recordFlush t) := by
  unfold recordFlush
  split <;> simp [h]

@[simp] theorem leaveFlush_quiet : Quiet s (leaveFlush t) := by
  unfold leaveFlush
  split <;> simp [h]

@[simp] theorem endPass_quiet (o : PassOutcome) (certs : List Notice) : Quiet s (endPass o certs t) := by
  have closed : Quiet s (closeCheck (queueEvents certs (queueEvent (.passResult (passResultOf o t)) t))) :=
    closeCheck_quiet (queueEvents_quiet (queueEvent_quiet h _) _)
  exact releaseCheck_quiet (by simp [endPassDiu, closed])

/-! ## Abort and retirement -/

@[simp] theorem takeBack_quiet : Quiet s (takeBack t) :=
  foldl_quiet h _ _ (fun _ h _ => by simp [takeBackOne, updCompartment_eq, h])

@[simp] theorem takeAbort_quiet (code : Code) : Quiet s (takeAbort code t) := by
  simp [takeAbort, askStatus, clearSteady, h]

@[simp] theorem runDownToDrainDown_quiet : Quiet s (runDownToDrainDown t) := by
  unfold runDownToDrainDown
  dsimp only
  split <;> simp [enterDrainDown, enterRunDown, h]

@[simp] theorem runDownToStarved_quiet : Quiet s (runDownToStarved t) := by
  unfold runDownToStarved
  dsimp only
  split <;> simp [enterStarved, enterRunDown, h]

@[simp] theorem abortPass_quiet (code : Code) : Quiet s (abortPass code t) := by
  have taken : Quiet s (takeAbort code (takeBack t)) := takeAbort_quiet (takeBack_quiet h) code
  unfold abortPass
  split
  · exact h
  · split <;> simp [enterDrainDown, h, taken]

@[simp] theorem leave_quiet (i : Nat) (code : Code) : Quiet s (leave i code t) := by
  unfold leave
  dsimp only
  repeat' split
  all_goals simp [dropHistory, h]

@[simp] theorem retire_quiet (atWindowEnd : Bool) (code : Code) (i : Nat) : Quiet s (retire atWindowEnd code i t) := by
  unfold retire
  dsimp only
  repeat' split
  all_goals simp [noteLeft, uninspectWindow, keepWatch, h]

@[simp] theorem memberFault_quiet (atWindowEnd : Bool) (k : FaultKind) (i : Nat) :
    Quiet s (memberFault atWindowEnd k i t) := by
  unfold memberFault
  dsimp only
  repeat' split
  all_goals simp [countOwn, h]

@[simp] theorem raiseSensor_quiet : Quiet s (raiseSensor t) := by
  unfold raiseSensor passFault skipInspection countPass
  dsimp only
  repeat' split
  all_goals simp [uninspectWindow, h]

@[simp] theorem sensorEntry_quiet : Quiet s (sensorEntry t) := by
  unfold sensorEntry
  split <;> simp [h]

@[simp] theorem faultEach_quiet (k : FaultKind) (l : List Nat) : Quiet s (faultEach k l t) :=
  foldl_quiet h _ _ (fun _ h _ => memberFault_quiet h _ _ _)

@[simp] theorem headCheck_quiet : Quiet s (headCheck t) := faultEach_quiet h _ _

theorem eitherOrder_quiet (b : Bool) {f g : State → State} (hf : ∀ t, Quiet s t → Quiet s (f t))
    (hg : ∀ t, Quiet s t → Quiet s (g t)) : Quiet s (eitherOrder b f g t) := by
  have next : Quiet s (t.setFree (t.free + 1)) := (quiet_setFree _).mpr h
  unfold eitherOrder
  split
  · split
    · exact hf _ (hg _ next)
    · exact hg _ (hf _ next)
  · exact hg _ (hf _ h)

/-! ## DRAIN -/

@[simp] theorem openNext_quiet : Quiet s (openNext t) := by
  unfold openNext
  split <;> simp [openRecord, h]

@[simp] theorem standInDrain_quiet (l : List Nat) : Quiet s (standInDrain l t) :=
  pumpPin_quiet (by simp [clearSteady, h]) _

@[simp] theorem turnToRetiring_quiet : Quiet s (turnToRetiring t) := by
  have drained : Quiet s (drainRetiring t) := openNext_quiet (standInDrain_quiet (leaveFlush_quiet h) _)
  unfold turnToRetiring
  repeat' split
  all_goals simp [turnRunDown, drained, h]

@[simp] theorem settleRetired_quiet : Quiet s (settleRetired t) := by
  unfold settleRetired
  repeat' split
  all_goals simp [keepWatch, h]

/-! ## Stage runs and the commit -/

@[simp] theorem enterFlush_quiet : Quiet s (enterFlush t) := by
  refine recordFlush_quiet (settleRetired_quiet (eitherOrder_quiet ?_ _ (fun _ => sensorEntry_quiet)
    (fun _ => headCheck_quiet)))
  have atRest (p : Pass) : Quiet s (pumpAtRest (t.setPass p)) := pumpPin_quiet ((quiet_setPass _).mpr h) _
  simp [sampleLoops, startFlush, atRest]

@[simp] theorem enterStage_quiet : Quiet s (enterStage t) := by
  unfold enterStage enterDry
  split
  · exact pumpPin_quiet (by simp [h]) _
  · simp [h]

@[simp] theorem commitPass_quiet : Quiet s (commitPass t) := by
  have gone : Quiet s (retiringLeave t) := foldl_quiet h _ _ (fun _ h _ => by split <;> simp [h])
  unfold commitPass
  dsimp only
  split
  · exact endPass_quiet gone _ _
  · exact endPass_quiet (foldl_quiet gone _ _ (fun _ h _ => by
      simp [commitMember, requestCommit, updCompartment_eq, h])) _ _

@[simp] theorem goOn_quiet (n : NextStep) : Quiet s (goOn n t) := by
  unfold goOn beginStep
  split
  · simp [enterHeld, h]
  · split <;> simp [h]

@[simp] theorem advanceOrCommit_quiet : Quiet s (advanceOrCommit t) := by
  unfold advanceOrCommit
  split <;> simp [h]

@[simp] theorem retireUnpassed_quiet : Quiet s (retireUnpassed t) :=
  foldl_quiet h _ _ (fun _ h _ => by split <;> simp [h])

@[simp] theorem decideProbe_quiet (m : Member) : Quiet s (decideProbe m t) := by
  unfold decideProbe
  split
  · simp [h]
  · split <;> simp [requestIdentify, updCompartment_eq, h]

@[simp] theorem endStageRun_quiet : Quiet s (endStageRun t) := by
  unfold endStageRun
  dsimp only
  repeat' split
  all_goals simp [h]

@[simp] theorem drainOnOrEnd_quiet : Quiet s (drainOnOrEnd t) := by
  unfold drainOnOrEnd drainOn
  repeat' split
  all_goals simp [h]

@[simp] theorem enterDrain_quiet : Quiet s (enterDrain t) := by
  have findings (u : State) (hu : Quiet s u) : Quiet s (drainFindings u) := by
    unfold drainFindings
    split
    · exact eitherOrder_quiet hu _ (fun _ => raiseSensor_quiet) (fun _ => headCheck_quiet)
    · exact headCheck_quiet hu
  exact drainOnOrEnd_quiet (findings _ (standInDrain_quiet h _))

/-! ## SPRAY and the end of an event -/

@[simp] theorem settle_quiet : Quiet s (settle t) := by
  unfold settle
  repeat' split
  all_goals simp [keepWatch, h]

@[simp] theorem runSpray_quiet : Quiet s (runSpray t) :=
  settle_quiet (eitherOrder_quiet (pumpPin_quiet ((quiet_setPass _).mpr h) _) _ (fun _ h => faultEach_quiet h _ _)
    (fun _ h => faultEach_quiet h _ _))

@[simp] theorem lookConditions_quiet (s0 : State) : Quiet s (lookConditions s0 t) := by
  have reports : Quiet s (reportStarvation t) := by
    unfold reportStarvation
    dsimp only
    repeat' split
    all_goals simp [h]
  unfold lookConditions lookResumption
  repeat' split
  · exact runSpray_quiet reports
  · exact reports
  · exact h

theorem conclude_quiet (s0 : State) : Quiet s (conclude s0 t) := by
  have looked := lookConditions_quiet h s0
  have k := conclude_look s0 t
  exact looked.of_same k.panel k.faults

end

end Sys2Proof.Machine
end

section
/-! SUPPORT. The SUPPLY record, its staleness and the lockout, to the end of their event (R155, R156, R170). -/

namespace Sys2Proof.Machine

variable {s t u v : State}

/-! ## The fault that the event raises -/

/-- A fault recorded in an event is there at its end, whatever the look at the conditions leads to. -/
theorem conclude_record {r : FaultRec} (s0 : State) (recorded : u.faults.record = some r) :
    (conclude s0 u).faults.record = some r := by
  obtain ⟨b, worked⟩ := lookConditions_work s0 u
  rw [(conclude_look s0 u).faults]
  exact worked.fault r recorded

/-- A full fault record stands to the end of its event. -/
theorem conclude_full (s0 : State) (held : u.faults.record.isSome = true) (full : u.faults.overflow = true) :
    (conclude s0 u).faults = u.faults := (conclude_quiet (.refl u) s0).faults held full

/-- What a fault raised in an event leaves of the fault record at its end. -/
theorem raiseFault_recorded {k : FaultKind} (s0 : State) (raised : u.faults = (raiseFault k none none s).faults) :
    (s.faults.record = none → (conclude s0 u).faults.record
      = some { kind := k, source := k.source, compartment := none, stage := none, time := s.job.clock })
    ∧ (s.faults.record.isSome = true → (conclude s0 u).faults = { s.faults with overflow := true }) := by
  refine ⟨fun empty => conclude_record s0 ?_, fun held => ?_⟩
  · rw [raised, raiseFault_empty k none none empty]
    rfl
  · have isFull : u.faults = { s.faults with overflow := true } := by
      rw [raised, raiseFault_held_eq k none none held]
      rfl
    rw [conclude_full s0 (by rw [isFull]; exact held) (by rw [isFull]), isFull]

/-! ## What the lockout leaves to the end of its event (R170) -/

theorem formDemand_locked (s0 : State) (locked : v.share.lockout = true) :
    (formDemand s0 v).share.refresh = v.share.refresh ∧ (formDemand s0 v).line = v.line := by
  unfold formDemand
  dsimp only
  split
  · split
    · rw [placeDemand, if_pos (by exact locked)]
      exact ⟨rfl, rfl⟩
    · exact ⟨rfl, rfl⟩
  · exact ⟨rfl, rfl⟩

theorem fillTx_demandBox (empty : v.line.demandBox = none) : (fillTx v).line.demandBox = none := by
  unfold fillTx chooseFrame
  rw [empty]
  dsimp only
  repeat' split
  all_goals exact empty

/-- Under the lockout no DEMAND is placed: the refresh timer stays stopped and the mailbox empty. -/
theorem conclude_locked (s0 : State) (locked : u.share.lockout = true) (empty : u.line.demandBox = none) :
    (conclude s0 u).share.refresh = u.share.refresh ∧ (conclude s0 u).line.demandBox = none := by
  obtain ⟨b, worked⟩ := lookConditions_work s0 u
  obtain ⟨a, d, share⟩ := worked.share
  obtain ⟨l, g, e, line⟩ := worked.line
  have refresh : (lookConditions s0 u).share.refresh = u.share.refresh := by rw [share]; rfl
  have box : (lookConditions s0 u).line.demandBox = none := by rw [line]; exact empty
  obtain ⟨formedRefresh, formedLine⟩ := formDemand_locked (v := lookConditions s0 u) s0 (by rw [share]; exact locked)
  rw [← formedLine] at box
  rw [← formedRefresh] at refresh
  unfold conclude
  generalize formDemand s0 (lookConditions s0 u) = v at refresh box
  have sends := (refreshStatus_sends s0 v).trans (sendNext_sends _)
  refine ⟨?_, ?_⟩
  · show (sendNext (refreshStatus s0 v)).share.refresh = _
    rw [sends.rest]
    exact refresh
  · obtain ⟨-, -, refreshed, -⟩ := refreshStatus_line s0 v
    obtain ⟨-, -, sent⟩ := sendNext_tx (refreshStatus s0 v)
    exact sent.trans (fillTx_demandBox (refreshed.trans box))

/-! ## The commands -/

/-- The lockout is set: the node's entry goes, the mailbox is emptied, the shares are computed afresh. -/
theorem lockOut_eq (unlocked : s.share.lockout = false) : lockOut s =
    withPeers (dropPeer (nodeOf s) s.share.peers)
      (((raiseFault .duplicateNode none none s).setLine
        { (raiseFault .duplicateNode none none s).line with demandBox := none }).setShare
        { (raiseFault .duplicateNode none none s).share with lockout := true, refresh := none }) :=
  if_neg (ne_true_of_eq_false unlocked)

theorem lockOut_locked (locked : s.share.lockout = true) : lockOut s = s := if_pos locked

theorem raiseFault_panel (k : FaultKind) (comp stage : Option Nat) (s : State) :
    (raiseFault k comp stage s).panel = s.panel := by rw [(raiseFault_rest k comp stage s).1]

theorem lockOut_panel (s : State) : (lockOut s).panel = s.panel := by
  cases lockout : s.share.lockout with
  | true => rw [lockOut_locked lockout]
  | false =>
    rw [lockOut_eq lockout]
    exact raiseFault_panel _ _ _ s

/-- A frame that bears the bay's own node locks it out (R170). -/
theorem exec_ownNode {c : Instr} {f : Frame} (running : s.power = .running) (mark : s.reader.mark = .inService)
    (own : frameNode f = nodeOf s)
    (h : (c = .demand f ∧ taken 1 7 f s) ∨ (c = .bayRestarted f ∧ taken 13 0 f s)
      ∨ (c = .bayStatus f ∧ taken 12 0 f s)) : exec c s = .next (conclude s (lockOut s)) := by
  obtain ⟨rfl, filtered⟩ | ⟨rfl, filtered⟩ | ⟨rfl, filtered⟩ := h
  · rw [exec_demand f running, if_pos filtered, ifInService_eq _ mark, takeDemand, if_pos own]
  · rw [exec_bayRestarted f running, if_pos filtered, ifInService_eq _ mark, takeRestarted, if_pos own]
  · rw [exec_bayStatus f running, if_pos filtered, ifInService_eq _ mark, takeStatus, if_pos own]

end Sys2Proof.Machine
end

section
open Sys2Proof Sys2Proof.Machine

/-- Settles O51: the lockout set, its fault recorded, the shares 0; a lockout already set changes nothing. -/
theorem ownNodeHeardLocksOut : Obligations.OwnNodeHeardLocksOut := by
  unfold Obligations.OwnNodeHeardLocksOut
  intro c f s running mark own hc
  have fed : Fed s (lockOut s) := lockOut_fed
  refine ⟨_, exec_ownNode running mark own hc, fun locked => ?_, fun unlocked => ?_, fun notSpray notStarved => ?_⟩
  · rw [lockOut_locked locked]
    have k := conclude_same s s rfl
    exact ⟨(conclude_of_sameDemand rfl rfl).2, k.faults, k.line.1⟩
  · have isLocked := lockOut_eq unlocked
    have share := conclude_share s (lockOut s)
    have lockout : (lockOut s).share.lockout = true := by rw [isLocked]; rfl
    have raised : (lockOut s).faults = (raiseFault .duplicateNode none none s).faults := by rw [isLocked]; rfl
    have computed : Computed (lockOut s) := by rw [isLocked]; exact recompute_computed _
    have peers : (lockOut s).share.peers = dropPeer (nodeOf s) s.share.peers := by rw [isLocked]; rfl
    have refresh : (lockOut s).share.refresh = none := by rw [isLocked]; rfl
    obtain ⟨sameRefresh, box⟩ := conclude_locked s lockout (by rw [isLocked]; rfl)
    obtain ⟨empty, held⟩ := raiseFault_recorded s raised
    have hot := computed.hot.trans (ownShare_of_lockout lockout _ _)
    have eff := computed.eff.trans (ownShare_of_lockout lockout _ _)
    refine ⟨?_, sameRefresh.trans refresh, ?_, ?_, ?_, box, empty, held⟩
    · rw [share]; exact lockout
    · rw [share]; exact hot
    · rw [share]; exact eff
    · rw [share]; exact peers
  · have k := conclude_phase s (lockOut s) (by rw [fed.pass]; exact notSpray) (by rw [fed.pass]; exact notStarved)
    exact ⟨k.job.trans fed.job, k.pass.trans fed.pass, k.diu.trans fed.diu, k.fill.trans fed.fill,
      k.panel.trans (lockOut_panel s), fed.module.trans k.module⟩

end

section
/-! SUPPORT. A SUPPLY taken and its record gone STALE (R155, R156, R163). -/

namespace Sys2Proof.Machine

variable {s t u v : State}

theorem plantOfCode_shutdown {n : Nat} (h : 2 ≤ n) : plantOfCode n = .shutdown := by
  rw [plantOfCode, if_neg (by omega), if_neg (by omega)]

/-- A SUPPLY changes the share unit alone: the record and the shares. -/
theorem takeSupply_eq (hot eff : Nat) (plant : Plant) (s : State) : takeSupply hot eff plant s = s.setShare { s.share with
    hotCap := min 4000 hot, effCap := min 4000 eff, plant := plant, stale := some 3000
    hotShare := (takeSupply hot eff plant s).share.hotShare, effShare := (takeSupply hot eff plant s).share.effShare
    hotReported := (takeSupply hot eff plant s).share.hotShare } := rfl

/-- The record gone STALE, before its fault is raised. -/
def staleRecord (s : State) : State := recompute (s.setShare { s.share with stale := none })

theorem goStale_fresh (isFresh : s.share.stale.isSome = true) :
    goStale s = raiseFault .supplyStale none none (staleRecord s) := if_pos isFresh

theorem goStale_stale (isStale : s.share.stale = none) : goStale s = s := by
  refine if_neg ?_
  rw [fresh, isStale]
  exact nofun

theorem goStale_panel (s : State) : (goStale s).panel = s.panel := by
  cases stale : s.share.stale with
  | none => rw [goStale_stale stale]
  | some n =>
    rw [goStale_fresh (by rw [stale]; rfl)]
    exact raiseFault_panel _ _ _ _

/-- A fresh record with the fault record empty queues SUPPLY_STALE. -/
theorem goStale_fifo (room : FifoBounded s) : (goStale s).line.fifo =
    if s.share.stale.isSome = true ∧ s.faults.record = none then
      joined [.fault { kind := .supplyStale, source := .share, compartment := none, stage := none,
                       time := s.job.clock }] s
    else s.line.fifo := by
  by_cases isFresh : s.share.stale.isSome = true
  · rw [goStale_fresh isFresh]
    by_cases empty : s.faults.record = none
    · rw [if_pos ⟨isFresh, empty⟩]
      exact raiseFault_empty_fifo .supplyStale none none (s := staleRecord s) empty room
    · rw [if_neg (fun h => empty h.2), raiseFault_held_eq .supplyStale none none (s := staleRecord s)
        (Option.isSome_iff_ne_none.mpr empty)]
      rfl
  · rw [if_neg (fun h => isFresh h.1), goStale_stale (by simpa using isFresh)]

theorem Computed.none (h : Computed u) (noCapacity : ∀ capacity, capacityUsed u.share capacity = 0) :
    u.share.hotShare = 0 ∧ u.share.effShare = 0 :=
  ⟨h.hot.trans (ownShare_of_noCapacity (noCapacity _) _), h.eff.trans (ownShare_of_noCapacity (noCapacity _) _)⟩

end Sys2Proof.Machine
end

section
open Sys2Proof Sys2Proof.Machine

/-- Settles O49: the record taken or STALE, the shares computed from it; what the look at the conditions does stands
apart. -/
theorem supplyRecordAndItsStaleness : Obligations.SupplyRecordAndItsStaleness := by
  unfold Obligations.SupplyRecordAndItsStaleness
  intro s running
  refine ⟨fun f => ?_, fun room => ?_⟩
  · have taken' := exec_supply f running
    by_cases takes : taken 0 5 f s ∧ s.reader.mark = .inService
    · obtain ⟨filtered, mark⟩ := takes
      let u := takeSupply (wordAt f 0) (wordAt f 2) (plantOfCode (byteAt f 4)) s
      rw [if_pos filtered, ifInService_eq _ mark] at taken'
      have share := conclude_share s u
      have computed : Computed u := recompute_computed _
      obtain ⟨hot, eff⟩ := computed.concluded s
      have none (h : 2 ≤ byteAt f 4) : u.share.hotShare = 0 ∧ u.share.effShare = 0 :=
        computed.none (fun _ => capacityUsed_of_shutdown (plantOfCode_shutdown h) _)
      refine ⟨_, taken', fun h => absurd ⟨filtered, mark⟩ h, fun _ _ => ⟨?_, hot, eff, fun h => ?_⟩,
        fun notSpray notStarved => ?_⟩
      · have sameHot : (conclude s u).share.hotShare = u.share.hotShare := by rw [share]
        have sameEff : (conclude s u).share.effShare = u.share.effShare := by rw [share]
        rw [sameHot, sameEff]
        exact share
      · rw [share]
        exact none h
      · have k := conclude_phase s u notSpray notStarved
        have steady : (conclude s u).share.steady = s.share.steady := by rw [k.share]; rfl
        exact ⟨k.share.steadyFlag, steady, k.job, k.pass, k.sameDiuFillFaults rfl rfl rfl, k.panel,
          k.sameModule (.refl s), k.sending rfl⟩
    · have untaken : (if taken 0 5 f s then
          ifInService (takeSupply (wordAt f 0) (wordAt f 2) (plantOfCode (byteAt f 4))) s else s) = s := by
        split
        next filtered => exact if_neg (fun mark => takes ⟨filtered, mark⟩)
        · rfl
      rw [untaken] at taken'
      have k := conclude_same s s rfl
      have steady : (conclude s s).share.steady = s.share.steady := by rw [k.share]
      exact ⟨_, taken', fun _ => k.share, fun filtered mark => absurd ⟨filtered, mark⟩ takes,
        fun _ _ => ⟨k.share.steadyFlag, steady, k.job, k.pass, k.sameDiuFillFaults rfl rfl rfl, k.panel, k.module, k.line⟩⟩
  · have fed : Fed s (goStale s) := goStale_fed
    have share := conclude_share s (goStale s)
    refine ⟨_, exec_supplyStale running, fun isStale => ?_, fun isFresh => ?_, fun notSpray notStarved => ?_⟩
    · rw [goStale_stale isStale]
      have k := conclude_same s s rfl
      exact ⟨k.share, k.faults, k.line.1⟩
    · have isRaised := goStale_fresh isFresh
      obtain ⟨rest, -⟩ := raiseFault_rest .supplyStale none none (staleRecord s)
      have sameShare : (goStale s).share = (staleRecord s).share := by rw [isRaised, rest]
      obtain ⟨empty, held⟩ := raiseFault_recorded (s := staleRecord s) s (congrArg State.faults isRaised)
      obtain ⟨hot, eff⟩ := (show Computed (staleRecord s) from recompute_computed _).none
        (fun _ => capacityUsed_of_stale rfl _)
      rw [share, sameShare]
      exact ⟨rfl, hot, eff, rfl, rfl, empty, held⟩
    · have k := conclude_phase s (goStale s) (by rw [fed.pass]; exact notSpray) (by rw [fed.pass]; exact notStarved)
      refine ⟨k.job.trans fed.job, k.pass.trans fed.pass, k.diu.trans fed.diu, k.fill.trans fed.fill, ?_,
        fed.module.trans k.module, ?_⟩
      · exact k.panel.trans (goStale_panel s)
      · exact k.line.1.trans (goStale_fifo room)

end

section
/-! SUPPORT. Several members that retire in one event: marked (R95, R96, R105). -/

namespace Sys2Proof.Machine

variable {s t u v : State} {code : Code} {l : List Member} {m : Member}

/-- A member already retiring keeps its first code. -/
theorem retire_retiring {atWindowEnd : Bool} {i : Nat} (hm : member? s.pass i = some m)
    (retiring : m.retiring.isSome = true) : retire atWindowEnd code i s = s := by
  unfold retire
  rw [hm]
  exact if_pos retiring

/-- One of the members listed has index `i`. -/
def listed (l : List Member) (i : Nat) : Bool := l.any (fun m => m.index == i)

theorem listed_iff {i : Nat} : listed l i = true ↔ ∃ m ∈ l, m.index = i := by simp [listed]

/-- The members listed that are not retiring, marked. -/
def markListed (code : Code) (l : List Member) (members : List Member) : List Member :=
  members.map (fun x => if listed l x.index = true ∧ x.retiring = none then markMember code x else x)

theorem markListed_nil (members : List Member) : markListed code [] members = members := by
  simp [markListed, listed]

theorem markOne_index (i : Nat) (members : List Member) :
    (markOne code i members).map (·.index) = members.map (·.index) := by
  rw [markOne, List.map_map]
  refine List.map_congr_left (fun x _ => ?_)
  by_cases own : x.index = i
  · simp [own, markMember]
  · simp [own]

theorem member?_markOne_other {p : Pass} {late : Late} {i j : Nat} (other : j ≠ i) :
    member? (markedPass code i late p) j = member? p j := by
  show (markOne code i p.members).find? (fun x => x.index == j) = p.members.find? (fun x => x.index == j)
  induction p.members with
  | nil => rfl
  | cons x members ih =>
    by_cases own : x.index = i
    · have marked : markOne code i (x :: members) = markMember code x :: markOne code i members := by
        rw [markOne, List.map_cons, if_pos own]; rfl
      have apart : ¬ x.index = j := fun same => other (same.symm.trans own)
      rw [marked, List.find?_cons_of_neg (by simpa [markMember] using apart), List.find?_cons_of_neg (by simpa using apart)]
      exact ih
    · have stays : markOne code i (x :: members) = x :: markOne code i members := by
        rw [markOne, List.map_cons, if_neg own]; rfl
      rw [stays, List.find?_cons, List.find?_cons, ih]

/-- One more member marked. -/
theorem markListed_cons_going {members : List Member} (distinct : (members.map (·.index)).Nodup) (hm : m ∈ members)
    (goes : m.retiring = none) :
    markListed code l (markOne code m.index members) = markListed code (m :: l) members := by
  rw [markListed, markOne, List.map_map]
  refine List.map_congr_left (fun x hx => ?_)
  by_cases own : x.index = m.index
  · obtain rfl : x = m := List.inj_on_of_nodup_map distinct hx hm own
    have isListed : listed (x :: l) x.index = true := listed_iff.mpr ⟨x, List.mem_cons_self, rfl⟩
    simp [markMember, isListed, goes]
  · have same : listed (m :: l) x.index = listed l x.index := by
      simp [listed, List.any_cons, Ne.symm own]
    simp [own, same]

theorem markListed_cons_retiring {members : List Member} (distinct : (members.map (·.index)).Nodup) (hm : m ∈ members)
    (retiring : m.retiring.isSome = true) : markListed code l members = markListed code (m :: l) members := by
  refine List.map_congr_left (fun x hx => ?_)
  by_cases own : x.index = m.index
  · obtain rfl : x = m := List.inj_on_of_nodup_map distinct hx hm own
    have notGoes : ¬ x.retiring = none := Option.isSome_iff_ne_none.mp retiring
    simp [notGoes]
  · have same : listed (m :: l) x.index = listed l x.index := by
      simp [listed, List.any_cons, Ne.symm own]
    simp only [same]

/-- The members of a list retire, none of them leaving at once: each that was not retiring is marked. -/
theorem retireEach_marks (l : List Member) (s : State) (members : (s.pass.members.map (·.index)).Nodup)
    (distinct : (l.map (·.index)).Nodup) (here : ∀ m ∈ l, member? s.pass m.index = some m)
    (waits : ∀ m ∈ l, m.retiring = none → leavesAtOnce false m s = false ∧ ownWindowOpen m.index s = false) :
    ∃ late, l.foldl (fun s m => retire false code m.index s) s
        = s.setPass { s.pass with members := markListed code l s.pass.members, late := late }
      ∧ Retired s (l.foldl (fun s m => retire false code m.index s) s) := by
  induction l generalizing s with
  | nil =>
    refine ⟨s.pass.late, ?_, .refl s⟩
    rw [markListed_nil]
    rfl
  | cons m l ih =>
    obtain ⟨notAgain, distinct'⟩ := List.nodup_cons.mp distinct
    have found := here m List.mem_cons_self
    have isMember := List.mem_of_find?_eq_some found
    rw [List.foldl_cons]
    cases retiring : m.retiring with
    | some c =>
      have is : m.retiring.isSome = true := by rw [retiring]; rfl
      obtain ⟨late, each, retired⟩ := ih s members distinct' (fun y hy => here y (List.mem_cons_of_mem _ hy))
        (fun y hy => waits y (List.mem_cons_of_mem _ hy))
      rw [retire_retiring found is]
      refine ⟨late, ?_, retired⟩
      rw [each, markListed_cons_retiring members isMember is]
    | none =>
      obtain ⟨waits', own⟩ := waits m List.mem_cons_self retiring
      have marks := retire_marks (code := code) found retiring waits' own
      let w := s.setPass (markedPass code m.index (lateOfRetiring m.index s) s.pass)
      have apart (y : Member) (hy : y ∈ l) : y.index ≠ m.index := fun same => notAgain (List.mem_map.mpr ⟨y, hy, same⟩)
      obtain ⟨late, each, retired⟩ := ih w ((markOne_index _ _).symm ▸ members) distinct'
        (fun y hy => (member?_markOne_other (apart y hy)).trans (here y (List.mem_cons_of_mem _ hy)))
        (fun y hy => waits y (List.mem_cons_of_mem _ hy))
      rw [marks]
      refine ⟨late, ?_, (marked_retired _ s).trans retired⟩
      rw [← markListed_cons_going members isMember retiring]
      exact each

end Sys2Proof.Machine
end

section
/-! SUPPORT. Several members that retire in one event: gone at once (R95, R96, R105). -/

namespace Sys2Proof.Machine

variable {s t u v : State} {code : Code} {l : List Member} {m : Member}

/-- The members of a list that are not retiring. -/
def goingOf (l : List Member) : List Member := l.filter (fun m => m.retiring.isNone)

/-- The table after the outcomes of a list of members. -/
def outcomeTable (code : Code) (l : List Member) (table : List Compartment) : List Compartment :=
  l.foldl (fun table m => updTable m.index (outcomeRecord code.outcome m) table) table

theorem filter_unlisted_cons {α : Type} (index : α → Nat) (m : Member) (l : List Member) (xs : List α) :
    (xs.filter (fun x => index x != m.index)).filter (fun x => !listed l (index x))
      = xs.filter (fun x => !listed (m :: l) (index x)) := by
  rw [List.filter_filter]
  refine List.filter_congr (fun x _ => ?_)
  rw [listed, listed, List.any_cons, Bool.not_or, Bool.and_comm, bne, BEq.comm]

/-- The members of a list retire, each leaving at once, the job held open by another compartment. -/
theorem retireEach_leaves (l : List Member) (s : State) (distinct : (l.map (·.index)).Nodup)
    (here : ∀ m ∈ l, member? s.pass m.index = some m)
    (leaves : ∀ m ∈ l, m.retiring = none → leavesAtOnce false m s = true)
    (other : ∃ x ∈ s.job.table, (∀ m ∈ goingOf l, x.index ≠ m.index) ∧ terminal x = false) : ∃ p d,
    l.foldl (fun s m => retire false code m.index s) s
      = { s with job := { s.job with table := outcomeTable code (goingOf l) s.job.table }, pass := p, diu := d }
    ∧ p.members = s.pass.members.filter (fun x => !listed (goingOf l) x.index)
    ∧ p.drainList = s.pass.drainList.filter (fun i => !listed (goingOf l) i)
    ∧ Retired s (l.foldl (fun s m => retire false code m.index s) s) := by
  induction l generalizing s with
  | nil => exact ⟨s.pass, s.diu, rfl, by simp [goingOf, listed], by simp [goingOf, listed], .refl s⟩
  | cons m l ih =>
    obtain ⟨notAgain, distinct'⟩ := List.nodup_cons.mp distinct
    have found := here m List.mem_cons_self
    rw [List.foldl_cons]
    cases retiring : m.retiring with
    | some c =>
      have is : m.retiring.isSome = true := by rw [retiring]; rfl
      have same : goingOf (m :: l) = goingOf l := List.filter_cons_of_neg (by rw [retiring]; exact nofun)
      rw [retire_retiring found is, same]
      rw [same] at other
      exact ih s distinct' (fun y hy => here y (List.mem_cons_of_mem _ hy))
        (fun y hy => leaves y (List.mem_cons_of_mem _ hy)) other
    | none =>
      have apart (y : Member) (hy : y ∈ l) : y.index ≠ m.index := fun same => notAgain (List.mem_map.mpr ⟨y, hy, same⟩)
      have goes : goingOf (m :: l) = m :: goingOf l := List.filter_cons_of_pos (by rw [retiring]; rfl)
      rw [goes] at other ⊢
      obtain ⟨x, hx, others, running⟩ := other
      let late := notedLate code m s
      have left : retire false code m.index s = without code m late s := by
        rw [retire_leaves found retiring (leaves m List.mem_cons_self retiring)]
        exact checkedAfter_of_incomplete
          (.inr (incomplete_without ⟨x, hx, others m List.mem_cons_self, running⟩))
      obtain ⟨p, d, rest, members, drainList, retired⟩ := ih (without code m late s) distinct'
        (fun y hy => (member?_without (apart y hy)).trans (here y (List.mem_cons_of_mem _ hy)))
        (fun y hy => leaves y (List.mem_cons_of_mem _ hy))
        ⟨x, mem_updTable_of_other hx (others m List.mem_cons_self),
          fun y hy => others y (List.mem_cons_of_mem _ hy), running⟩
      rw [left]
      refine ⟨p, d, rest, ?_, ?_, (without_retired late s).trans retired⟩
      · exact members.trans (filter_unlisted_cons Member.index m _ _)
      · exact drainList.trans (filter_unlisted_cons id m _ _)

end Sys2Proof.Machine
end

section
/-! SUPPORT. The key goes off (R57, R105, R150). -/

namespace Sys2Proof.Machine

variable {s t u v w : State}

theorem exec_keyOff (running : s.power = .running) :
    exec .keyOff s = .next (conclude s (fillKeyOff (passKeyOff (takeLine .key false s)))) := by
  unfold exec execKeyOff
  exact event_running _ s running

/-! ## The fill unit (R150) -/

/-- The key touches the fill unit alone, a fill of a KEYED compartment. -/
theorem fillKeyOff_eq_setFill (s : State) :
    ∃ f, fillKeyOff s = s.setFill f ∧ (s.fill.ctx = none → f = s.fill) := by
  unfold fillKeyOff filling?
  cases ctx : s.fill.ctx with
  | none => exact ⟨s.fill, rfl, fun _ => rfl⟩
  | some x =>
    dsimp only [Option.map_some]
    split
    · obtain ⟨f, stopped⟩ := stopFill_eq_setFill .keyRemoved s
      exact ⟨f, stopped, nofun⟩
    · exact ⟨s.fill, rfl, nofun⟩

theorem fillKeyOff_filling {x : FillCtx} {c : Compartment} (hctx : s.fill.ctx = some x)
    (hc : compartment? s x.compartment = some c) : fillKeyOff s = s.setFill { s.fill with
      ctx := some (if c.keyed = true ∧ x.phase ≠ .runOn then
        { x with phase := .runOn, cause := some .keyRemoved, learn := false, quietMs := 0 } else x) } := by
  have same : s.fill = { s.fill with ctx := some x } := by rw [← hctx]
  unfold fillKeyOff filling?
  rw [hctx, Option.map_some]
  dsimp only
  rw [hc, Option.map_some, Option.getD_some]
  by_cases keyed : c.keyed = true
  · rw [if_pos keyed, stopFill_eq .keyRemoved hctx, stopped]
    by_cases runOn : x.phase = .runOn
    · rw [if_pos runOn, if_neg (fun h => h.2 runOn)]
      rfl
    · rw [if_neg runOn, if_pos ⟨keyed, runOn⟩]
      rfl
  · rw [if_neg keyed, if_neg (fun h => keyed h.1), ← same]
    rfl

/-! ## The batch (R57) -/

/-- A batch member that leaves with the job held open leaves the rest of the batch as it was. -/
theorem dropFromBatch_open (b : BatchMember) (gathering : s.pass.phase = .gathering)
    (other : ∃ x ∈ s.job.table, x.index ≠ b.index ∧ terminal x = false) : ∃ p,
    dropFromBatch b s = { s with job := { s.job with table := returnedTable b s.job.table }, pass := p }
    ∧ p.phase = .gathering ∧ p.window = s.pass.window
    ∧ p.batch = s.pass.batch.filter (fun x => x.index != b.index) := by
  obtain ⟨x, hx, apart, running⟩ := other
  let p : Pass := { s.pass with
    batch := s.pass.batch.filter (fun x => x.index != b.index)
    batchRecipe := if s.pass.batch.filter (fun x => x.index != b.index) = [] then none else s.pass.batchRecipe
    probe := if s.pass.batch.filter (fun x => x.index != b.index) = [] then false else s.pass.probe }
  have incomplete : ¬ JobComplete (requestReturn b (s.setPass p)) := by
    rintro ⟨-, all⟩
    have := List.all_eq_true.mp all x (List.mem_map.mpr ⟨x, hx, if_neg apart⟩)
    rw [running] at this
    cases this
  refine ⟨p, ?_, gathering, rfl, rfl⟩
  have checked : dropFromBatch b s = closeCheck (requestReturn b (s.setPass p)) := rfl
  rw [checked, closeCheck_of_incomplete incomplete]
  rfl

/-- The members of a list leave the batch, the job held open by a compartment of another index. -/
theorem dropEach_open (l : List BatchMember) (s : State) (gathering : s.pass.phase = .gathering)
    (other : ∃ x ∈ s.job.table, (∀ b ∈ l, x.index ≠ b.index) ∧ terminal x = false) : ∃ j p,
    l.foldl (fun s b => dropFromBatch b s) s = { s with job := j, pass := p }
    ∧ p.phase = .gathering ∧ p.window = s.pass.window
    ∧ p.batch = s.pass.batch.filter (fun x => !l.any (fun b => b.index == x.index)) := by
  induction l generalizing s with
  | nil => exact ⟨s.job, s.pass, rfl, gathering, rfl, by simp⟩
  | cons b l ih =>
    obtain ⟨x, hx, apart, running⟩ := other
    obtain ⟨q, dropped, gathering', window, batch⟩ :=
      dropFromBatch_open b gathering ⟨x, hx, apart b List.mem_cons_self, running⟩
    have hx' : x ∈ returnedTable b s.job.table := List.mem_map.mpr ⟨x, hx, if_neg (apart b List.mem_cons_self)⟩
    obtain ⟨j, p, rest, phase, window', batch'⟩ := ih (dropFromBatch b s) (by rw [dropped]; exact gathering')
      ⟨x, by rw [dropped]; exact hx', fun y hy => apart y (List.mem_cons_of_mem _ hy), running⟩
    refine ⟨j, p, ?_, phase, ?_, ?_⟩
    · rw [List.foldl_cons, rest, dropped]
    · rw [window', dropped]
      exact window
    · rw [batch', dropped]
      show q.batch.filter _ = _
      rw [batch, List.filter_filter]
      refine List.filter_congr (fun x _ => ?_)
      rw [List.any_cons, Bool.not_or, Bool.and_comm, bne, BEq.comm]

theorem keyMarkOf_congr (table : t.job.table = s.job.table) (i : Nat) : keyMarkOf t i = keyMarkOf s i := by
  unfold keyMarkOf compartment?
  rw [table]

/-- In GATHERING the KEYED members leave the batch, and no other does. -/
theorem dropKeyed_open (gathering : s.pass.phase = .gathering)
    (other : ∃ x ∈ s.job.table, terminal x = false ∧ ∀ b ∈ s.pass.batch, b.index ≠ x.index) : ∃ j p,
    dropKeyed s = { s with job := j, pass := p } ∧ p.phase = .gathering ∧ p.window = s.pass.window
    ∧ p.batch = s.pass.batch.filter (fun b => decide (keyMarkOf s b.index ≠ .keyed)) := by
  obtain ⟨x, hx, running, apart⟩ := other
  obtain ⟨j, p, rest, phase, window, batch⟩ := dropEach_open
    (s.pass.batch.filter (fun b => decide (keyMarkOf s b.index = .keyed))) s gathering
    ⟨x, hx, fun b hb same => apart b (List.mem_filter.mp hb).1 same.symm, running⟩
  refine ⟨j, p, rest, phase, window, batch.trans ?_⟩
  refine List.filter_congr (fun b hb => ?_)
  have same : (s.pass.batch.filter (fun b => decide (keyMarkOf s b.index = .keyed))).any (fun y => y.index == b.index)
      = decide (keyMarkOf s b.index = .keyed) := by
    rw [Bool.eq_iff_iff, List.any_eq_true, decide_eq_true_iff]
    constructor
    · rintro ⟨y, hy, index⟩
      have keyed := of_decide_eq_true (List.mem_filter.mp hy).2
      rwa [beq_iff_eq.mp index] at keyed
    · intro keyed
      exact ⟨b, List.mem_filter.mpr ⟨hb, decide_eq_true keyed⟩, by simp⟩
  rw [same]
  simp

/-! ## A formed pass (R105) -/

/-- The members marked KEYED. -/
def keyedOf (s : State) : List Member := s.pass.members.filter (fun m => decide (keyMarkOf s m.index = .keyed))

/-- The state after their retirements. -/
def keyRetired (s : State) : State := (keyedOf s).foldl (fun s m => retire false .keyRemoved m.index s) s

theorem passKeyOff_formed (isFormed : formed s.pass) (notDrainDown : s.pass.phase ≠ .drainDown)
    (unaborted : s.pass.abortCode = none) : passKeyOff s = settle (keyRetired s) := by
  have retired : retireKeyed s = settle (keyRetired s) := if_neg (by simp [aborting, unaborted])
  rw [← retired]
  unfold passKeyOff
  cases phase : s.pass.phase with
  | none => exact absurd phase isFormed.1
  | gathering => exact absurd phase isFormed.2
  | drainDown => exact absurd phase notDrainDown
  | flush | spray | drain | dry | runDown | held | starved => rfl

theorem passKeyOff_idle (h : s.pass.phase = .none ∨ (s.pass.phase ≠ .gathering ∧ s.pass.abortCode.isSome = true)) :
    passKeyOff s = s := by
  unfold passKeyOff
  obtain none | ⟨notGathering, aborts⟩ := h
  · rw [none]
  · have retired : retireKeyed s = s := if_pos aborts
    cases phase : s.pass.phase with
    | none | drainDown => rfl
    | gathering => exact absurd phase notGathering
    | flush | spray | drain | dry | runDown | held | starved => exact retired

theorem listed_keyedOf {m : Member} (hm : m ∈ s.pass.members) :
    listed (keyedOf s) m.index = true ↔ keyMarkOf s m.index = .keyed := by
  rw [listed_iff]
  constructor
  · rintro ⟨y, hy, index⟩
    have keyed := of_decide_eq_true (List.mem_filter.mp hy).2
    rwa [index] at keyed
  · intro keyed
    exact ⟨m, List.mem_filter.mpr ⟨hm, decide_eq_true keyed⟩, rfl⟩

end Sys2Proof.Machine
end

section
/-! SUPPORT. The KEYED members of a formed pass marked, and what that leads to (R68, R87, R95 to R97, R105). -/

namespace Sys2Proof.Machine

variable {s t u v w : State} {f : FillUnit}

/-- The members with the KEYED ones that were not retiring marked. -/
def markKeyed (s : State) : List Member :=
  s.pass.members.map (fun m => if m.retiring = none ∧ keyMarkOf s m.index = .keyed then
    { m with retiring := some .keyRemoved, passed := false } else m)

/-- `u` is `s` with the KEYED members marked and the key's line off. -/
structure KeyMarked (s u : State) : Prop where
  pass : u.pass = { s.pass with members := markKeyed s, late := u.pass.late }
  job : u.job = s.job
  diu : u.diu = s.diu
  fill : u.fill = s.fill
  faults : u.faults = s.faults
  share : u.share = s.share
  module : SameModule s u
  head : u.panel.level.head = s.panel.level.head
  probe : u.panel.level.probe = s.panel.level.probe
  suffices' : starvation s = false → starvation u = false

theorem markListed_keyedOf (s : State) : markListed .keyRemoved (keyedOf s) s.pass.members = markKeyed s := by
  refine List.map_congr_left (fun m hm => ?_)
  simp only [listed_keyedOf hm, and_comm, markMember]

/-- None of the KEYED members leaving at once, they are marked. -/
theorem keyRetired_marked (members : (s.pass.members.map (·.index)).Nodup)
    (own : ∀ m ∈ s.pass.members, m.retiring = none ∧ keyMarkOf s m.index = .keyed → ownWindowOpen m.index s = false)
    (wet : ∀ m ∈ s.pass.members, m.retiring = none ∧ keyMarkOf s m.index = .keyed →
      m.wetted = true ∨ s.pass.phase = .dry) : KeyMarked s (keyRetired (takeLine .key false s)) := by
  have sublist : (keyedOf s).Sublist s.pass.members := List.filter_sublist
  have keyed (m : Member) (hm : m ∈ keyedOf s) : keyMarkOf s m.index = .keyed :=
    of_decide_eq_true (List.mem_filter.mp hm).2
  have waits (m : Member) (hm : m ∈ keyedOf s) (goes : m.retiring = none) :
      leavesAtOnce false m (takeLine .key false s) = false ∧ ownWindowOpen m.index (takeLine .key false s) = false := by
    refine ⟨?_, own m (sublist.subset hm) ⟨goes, keyed m hm⟩⟩
    obtain wetted | dry := wet m (sublist.subset hm) ⟨goes, keyed m hm⟩
    · exact waits_of_wetted wetted
    · have dry' : (takeLine .key false s).pass.phase = .dry := dry
      simp [leavesAtOnce, dry']
  obtain ⟨late, each, retired⟩ := retireEach_marks (code := .keyRemoved) (keyedOf s) (takeLine .key false s) members
    (members.sublist (sublist.map _)) (fun m hm => member?_of_mem (p := s.pass) members (sublist.subset hm)) waits
  have isMarked : keyRetired (takeLine .key false s) = (takeLine .key false s).setPass
      { s.pass with members := markKeyed s, late := late } := by
    rw [← markListed_keyedOf s]
    exact each
  have retired' : Retired (takeLine .key false s) (keyRetired (takeLine .key false s)) := retired
  have same : starvation (takeLine .key false s) = starvation s := starvation_congr rfl rfl rfl rfl
  have suffices' (h : starvation s = false) : starvation (keyRetired (takeLine .key false s)) = false :=
    retired'.starvation (same.trans h)
  rw [isMarked] at suffices' ⊢
  exact ⟨rfl, rfl, rfl, rfl, rfl, rfl, .refl s, rfl, rfl, suffices'⟩

/-! ## The members after it -/

theorem mem_markKeyed_going {m : Member} (hm : m ∈ s.pass.members)
    (unkeyed : keyMarkOf s m.index ≠ .keyed) : m ∈ markKeyed s :=
  List.mem_map.mpr ⟨m, hm, if_neg (fun h => unkeyed h.2)⟩

theorem mem_markKeyed_keyed {m : Member} (hm : m ∈ s.pass.members) (goes : m.retiring = none)
    (keyed : keyMarkOf s m.index = .keyed) : ∃ x ∈ markKeyed s, x.passed = false :=
  ⟨_, List.mem_map.mpr ⟨m, hm, if_pos ⟨goes, keyed⟩⟩, rfl⟩

/-- A member that goes on after it was one that went on. -/
theorem going_of_mem_markKeyed {m : Member} (hm : m ∈ markKeyed s) (goes : m.retiring = none) : m ∈ s.pass.members := by
  obtain ⟨y, hy, rfl⟩ := List.mem_map.mp hm
  by_cases keyed : y.retiring = none ∧ keyMarkOf s y.index = .keyed
  · rw [if_pos keyed] at goes
    cases goes
  · rw [if_neg keyed]
    exact hy

theorem KeyMarked.members (h : KeyMarked s u) : u.pass.members = markKeyed s := by rw [h.pass]

theorem KeyMarked.unseated (h : KeyMarked s u) (seated : Machine.unseated s = []) : Machine.unseated u = [] := by
  unfold Machine.unseated headOn at seated ⊢
  rw [h.members, h.head, List.map_eq_nil_iff, List.filter_eq_nil_iff]
  rw [List.map_eq_nil_iff, List.filter_eq_nil_iff] at seated
  intro m hm off
  have goes : m.retiring = none := by
    simp only [Bool.and_eq_true, Option.isNone_iff_eq_none] at off
    exact off.1
  exact seated m (going_of_mem_markKeyed hm goes) off

theorem KeyMarked.flooded (h : KeyMarked s u) (dry : Machine.flooded s = []) : Machine.flooded u = [] := by
  unfold Machine.flooded probeWet sprayingMembers at dry ⊢
  rw [h.members, h.probe, List.map_eq_nil_iff, List.filter_filter, List.filter_eq_nil_iff]
  rw [List.map_eq_nil_iff, List.filter_filter, List.filter_eq_nil_iff] at dry
  intro m hm wet
  have goes : m.retiring = none := by
    simp only [Bool.and_eq_true, Option.isNone_iff_eq_none] at wet
    exact wet.2.2
  exact dry m (going_of_mem_markKeyed hm goes) wet

theorem KeyMarked.namedAbsent (h : KeyMarked s u) : Machine.namedAbsent u = Machine.namedAbsent s := by
  unfold Machine.namedAbsent
  rw [h.pass, h.diu]
  rfl

theorem KeyMarked.volumeReached (h : KeyMarked s u) :
    Machine.volumeReached u.pass = Machine.volumeReached { s.pass with members := markKeyed s } := by
  rw [h.pass]
  rfl

theorem KeyMarked.resumption (h : KeyMarked s u) :
    Machine.resumption u = Machine.resumption { s with pass := { s.pass with members := markKeyed s } } :=
  resumption_congr (by rw [h.pass]) (by rw [h.pass]) h.members h.module.2.1 (by rw [h.share]) (by rw [h.share])

theorem KeyMarked.phase (h : KeyMarked s u) : u.pass.phase = s.pass.phase := by rw [h.pass]

theorem KeyMarked.abort (h : KeyMarked s u) : u.pass.abortCode = s.pass.abortCode := by rw [h.pass]

/-! ## What the marking leads to -/

theorem DrainEntered.setFill (h : DrainEntered u t) (f : FillUnit) : DrainEntered (u.setFill f) (t.setFill f) :=
  { h with fill := rfl, module := h.module, line := h.line }

theorem RetiringDrained.setFill (h : RetiringDrained u t) (f : FillUnit) :
    RetiringDrained (u.setFill f) (t.setFill f) :=
  { h with fill := rfl, module := h.module, line := h.line }

/-- The pass goes on as it was but for the marks. -/
theorem KeyMarked.stays (h : KeyMarked s u) (f : FillUnit) (suffices' : s.pass.phase = .spray → starvation s = false)
    (unresumed : s.pass.phase = .starved → Machine.resumption u = false) :
    Concluded (u.setFill f) (conclude s (u.setFill f)) := by
  by_cases starved : s.pass.phase = .starved
  · obtain ⟨b, look⟩ := lookConditions_starvedGoesOn (s0 := s) (u := u.setFill f) (h.phase.trans starved)
      (.inr (unresumed starved))
    have k := conclude_look s (u.setFill f)
    rw [look] at k
    exact reported_concluded b k
  · refine concluded_of_going s (u := u.setFill f) (fun phase => starved (h.phase.symm.trans phase)) (fun spray => ?_)
    exact h.suffices' (suffices' (h.phase.symm.trans spray))

/-- The share suffices for the members that are left: the starved SPRAY is taken up (R87). -/
theorem KeyMarked.takenUp (h : KeyMarked s u) (f : FillUnit) (served : inService s) (starved : s.pass.phase = .starved)
    (goes : ∃ m ∈ markKeyed s, m.retiring = none) (short : Machine.volumeReached u.pass = false)
    (resumes : Machine.resumption u = true) (moved : nominalFlow u.pass ≠ nominalFlow s.pass)
    (seated : Machine.unseated s = []) (dry : Machine.flooded s = []) : let t := conclude s (u.setFill f)
    t.pass = sprayPass u.pass ∧ t.panel.raw.pumpStopped = false ∧ t.diu = s.diu ∧ t.job = s.job
    ∧ t.faults = s.faults := by
  have served' : inService (u.setFill f) := by
    obtain ⟨power, reader, -⟩ := h.module
    exact ⟨power.trans served.1, (congrArg (·.mark) reader).trans served.2⟩
  have changed : starveInputs (u.setFill f) ≠ starveInputs s :=
    fun same => moved (congrArg (fun x => x.2.2.1) same)
  have goesOn : allRetiring u.pass = false := by
    obtain ⟨m, hm, goes⟩ := goes
    rw [allRetiring, List.all_eq_false]
    exact ⟨m, h.members ▸ hm, by simp [goes]⟩
  obtain ⟨b, look⟩ := lookConditions_resumes (u := u.setFill f) served' changed (h.phase.trans starved) resumes
  have k := conclude_look s (u.setFill f)
  rw [look, runSpray_eq (s := reported b (u.setFill f)) (h.unseated seated) (h.flooded dry) short goesOn] at k
  generalize conclude s (u.setFill f) = t at k
  refine ⟨k.pass, ?_, k.diu.trans h.diu, k.job.trans h.job, k.faults.trans h.faults⟩
  rw [k.panel]
  rfl

/-- Every member retiring in a run-down or a DRAIN: the run-down turns to DRAIN, the DRAIN goes on (R97). -/
theorem KeyMarked.turned (h : KeyMarked s u) (f : FillUnit) (unaborted : s.pass.abortCode = none)
    (nonempty : u.pass.members ≠ []) (all : ∀ m ∈ u.pass.members, m.retiring.isSome = true)
    (phase : s.pass.phase = .drain ∨ s.pass.phase = .runDown ∧ s.pass.dest ≠ some .drainDown) :
    let t := conclude s ((settle u).setFill f)
    t.pass.members = markKeyed s ∧ t.pass.stage = s.pass.stage ∧ t.job = s.job ∧ t.faults = s.faults
    ∧ (s.pass.phase = .runDown → t.pass.phase = .runDown ∧ t.pass.dest = some .drain) := by
  have isFormed : formed u.pass := by
    rw [formed, h.phase]
    obtain drain | ⟨runDown, -⟩ := phase
    · rw [drain]; exact ⟨nofun, nofun⟩
    · rw [runDown]; exact ⟨nofun, nofun⟩
  have stage : u.pass.stage = s.pass.stage := by rw [h.pass]
  rw [settle_retiring isFormed (h.abort.trans unaborted) nonempty all]
  obtain drain | ⟨runDown, dest⟩ := phase
  · rw [turnToRetiring_inDrain (h.phase.trans drain)]
    have samePhase : ((keepWatch u).setFill f).pass.phase = .drain := h.phase.trans drain
    have k := conclude_phase s ((keepWatch u).setFill f) (by rw [samePhase]; exact nofun) (by rw [samePhase]; exact nofun)
    dsimp only
    rw [k.pass]
    exact ⟨h.members, stage, k.job.trans h.job, k.faults.trans h.faults, fun runDown => nomatch drain.symm.trans runDown⟩
  · have phase' : (keepWatch u).pass.phase = .runDown := h.phase.trans runDown
    have dest' : (keepWatch u).pass.dest ≠ some .drainDown := by
      show u.pass.dest ≠ _
      rw [h.pass]
      exact dest
    obtain ⟨d, left⟩ := leaveFlush_eq_setDiu (keepWatch u)
    have turned : turnToRetiring (keepWatch u) = ((keepWatch u).setDiu d).setPass
        { (keepWatch u).pass with dest := some .drain, resumeAt := none, nextStep := none } := by
      unfold turnToRetiring
      rw [phase']
      dsimp only
      rw [if_neg dest', turnRunDown, left]
    rw [turned]
    have k := conclude_phase s ((((keepWatch u).setDiu d).setPass
        { (keepWatch u).pass with dest := some .drain, resumeAt := none, nextStep := none }).setFill f)
      (fun spray => nomatch phase'.symm.trans spray) (fun starved => nomatch phase'.symm.trans starved)
    dsimp only
    rw [k.pass]
    exact ⟨h.members, stage, k.job.trans h.job, k.faults.trans h.faults, fun _ => ⟨phase', rfl⟩⟩

end Sys2Proof.Machine
end

section
/-! SUPPORT. The KEYED members of a formed pass gone (R94, R96, R105). -/

namespace Sys2Proof.Machine

variable {s t u v w : State}

/-- The KEYED members that were not retiring. -/
def goneKeyed (s : State) : List Member := goingOf (keyedOf s)

theorem mem_goneKeyed {m : Member} :
    m ∈ goneKeyed s ↔ m ∈ s.pass.members ∧ m.retiring = none ∧ keyMarkOf s m.index = .keyed := by
  simp only [goneKeyed, goingOf, keyedOf, List.mem_filter, Option.isNone_iff_eq_none, decide_eq_true_eq, and_assoc,
    and_comm (a := m.retiring = none)]

/-- In a pass of different indexes the gone member of an index is the member of that index. -/
theorem listed_goneKeyed (members : (s.pass.members.map (·.index)).Nodup) {m : Member} (hm : m ∈ s.pass.members) :
    listed (goneKeyed s) m.index = true ↔ m.retiring = none ∧ keyMarkOf s m.index = .keyed := by
  rw [listed_iff]
  constructor
  · rintro ⟨y, hy, index⟩
    obtain ⟨mem, keyed⟩ := mem_goneKeyed.mp hy
    rwa [List.inj_on_of_nodup_map members mem hm index] at keyed
  · exact fun keyed => ⟨m, mem_goneKeyed.mpr ⟨hm, keyed⟩, rfl⟩

/-- The record of a compartment after the KEYED members have gone: restored where its member was one. -/
theorem find?_goneKeyed (members : (s.pass.members.map (·.index)).Nodup) (x : Compartment) :
    (match (goneKeyed s).find? (fun m => m.index == x.index) with
      | none => x
      | some m => outcomeRecord Code.keyRemoved.outcome m x)
    = match s.pass.members.find? (fun m => m.index == x.index) with
      | none => x
      | some m => if m.retiring = none ∧ keyMarkOf s m.index = .keyed then
          { x with state := m.ckState, lastClass := m.ckClass, keyMark := .none } else x := by
  cases found : s.pass.members.find? (fun m => m.index == x.index) with
  | none =>
    have none : (goneKeyed s).find? (fun m => m.index == x.index) = none :=
      List.find?_eq_none.mpr (fun y hy => List.find?_eq_none.mp found y (mem_goneKeyed.mp hy).1)
    rw [none]
  | some m =>
    have hm := List.mem_of_find?_eq_some found
    have index : m.index = x.index := beq_iff_eq.mp (List.find?_some (p := fun m : Member => m.index == x.index) found)
    cases gone : (goneKeyed s).find? (fun m => m.index == x.index) with
    | none =>
      have unkeyed : ¬ (m.retiring = none ∧ keyMarkOf s m.index = .keyed) := by
        intro keyed
        exact List.find?_eq_none.mp gone m (mem_goneKeyed.mpr ⟨hm, keyed⟩) (beq_iff_eq.mpr index)
      exact (if_neg unkeyed).symm
    | some y =>
      obtain ⟨hy, keyed⟩ := mem_goneKeyed.mp (List.mem_of_find?_eq_some gone)
      have sameIndex : y.index = x.index :=
        beq_iff_eq.mp (List.find?_some (p := fun m : Member => m.index == x.index) gone)
      obtain rfl : y = m := List.inj_on_of_nodup_map members hy hm (sameIndex.trans index.symm)
      exact (if_pos keyed).symm

/-- `u` is `s` with the KEYED members gone and the key's line off. -/
structure KeyGone (s u : State) : Prop where
  phase : u.pass.phase = s.pass.phase
  members : u.pass.members = s.pass.members.filter (fun m => !listed (goneKeyed s) m.index)
  drainList : u.pass.drainList = s.pass.drainList.filter (fun i => !listed (goneKeyed s) i)
  job : u.job = { s.job with table := outcomeTable .keyRemoved (goneKeyed s) s.job.table }
  faults : u.faults = s.faults

/-- Each of the KEYED members leaving at once, they are gone. -/
theorem keyRetired_gone (members : (s.pass.members.map (·.index)).Nodup) (notDry : s.pass.phase ≠ .dry)
    (own : ∀ m ∈ s.pass.members, m.retiring = none ∧ keyMarkOf s m.index = .keyed → ownWindowOpen m.index s = false)
    (unwetted : ∀ m ∈ s.pass.members, m.retiring = none ∧ keyMarkOf s m.index = .keyed → m.wetted = false)
    (other : ∃ x ∈ s.job.table, terminal x = false ∧ keyMarkOf s x.index ≠ .keyed) :
    KeyGone s (keyRetired (takeLine .key false s)) := by
  have sublist : (keyedOf s).Sublist s.pass.members := List.filter_sublist
  obtain ⟨x, hx, running, unkeyed⟩ := other
  have leaves (m : Member) (hm : m ∈ keyedOf s) (goes : m.retiring = none) :
      leavesAtOnce false m (takeLine .key false s) = true := by
    have keyed := of_decide_eq_true (List.mem_filter.mp hm).2
    exact leaves_of_dry (s := takeLine .key false s) (unwetted m (sublist.subset hm) ⟨goes, keyed⟩) notDry
      (own m (sublist.subset hm) ⟨goes, keyed⟩)
  have stands (m : Member) (hm : m ∈ goingOf (keyedOf s)) : x.index ≠ m.index := by
    obtain ⟨-, -, keyed⟩ := mem_goneKeyed.mp hm
    exact fun same => unkeyed (same ▸ keyed)
  obtain ⟨p, d, rest, members', drainList, retired⟩ := retireEach_leaves (code := .keyRemoved) (keyedOf s)
    (takeLine .key false s) (members.sublist (sublist.map _))
    (fun m hm => member?_of_mem (p := s.pass) members (sublist.subset hm)) leaves ⟨x, hx, stands, running⟩
  have isRetired : keyRetired (takeLine .key false s) = _ := rest
  have phase : (keyRetired (takeLine .key false s)).pass.phase = s.pass.phase := retired.phase
  rw [isRetired] at phase ⊢
  exact ⟨phase, members', drainList, rfl, rfl⟩

theorem outcomeTable_goneKeyed (members : (s.pass.members.map (·.index)).Nodup) (table : List Compartment) :
    outcomeTable .keyRemoved (goneKeyed s) table = table.map (fun x =>
      match s.pass.members.find? (fun m => m.index == x.index) with
      | none => x
      | some m => if m.retiring = none ∧ keyMarkOf s m.index = .keyed then
          { x with state := m.ckState, lastClass := m.ckClass, keyMark := .none } else x) := by
  have sublist : (goneKeyed s).Sublist s.pass.members := List.filter_sublist.trans List.filter_sublist
  rw [outcomeTable, foldl_updTable (fun m => outcomeRecord Code.keyRemoved.outcome m)
    (fun m => outcomeRecord_index _ m) (members.sublist (sublist.map _))]
  exact List.map_congr_left (fun x _ => find?_goneKeyed members x)

/-- A member that goes on goes on after it. -/
theorem KeyGone.goes (h : KeyGone s u) (members : (s.pass.members.map (·.index)).Nodup)
    (goes : ∃ m ∈ s.pass.members, m.retiring = none ∧ keyMarkOf s m.index ≠ .keyed) :
    ∃ m ∈ u.pass.members, m.retiring = none := by
  obtain ⟨m, hm, goes, unkeyed⟩ := goes
  refine ⟨m, ?_, goes⟩
  rw [h.members]
  refine List.mem_filter.mpr ⟨hm, ?_⟩
  rw [Bool.not_eq_true', ← Bool.not_eq_true, listed_goneKeyed members hm]
  exact fun keyed => unkeyed keyed.2

/-- No member of an index is gone. -/
theorem unlisted_goneKeyed (i : Nat) : (!listed (goneKeyed s) i) = true
    ↔ ∀ m ∈ s.pass.members, m.index = i → ¬ (m.retiring = none ∧ keyMarkOf s m.index = .keyed) := by
  rw [Bool.not_eq_true', ← Bool.not_eq_true, listed_iff]
  constructor
  · exact fun none m hm index keyed => none ⟨m, mem_goneKeyed.mpr ⟨hm, keyed⟩, index⟩
  · rintro none ⟨m, hm, index⟩
    obtain ⟨hm, keyed⟩ := mem_goneKeyed.mp hm
    exact none m hm index keyed

end Sys2Proof.Machine
end

section
/-! SUPPORT. The key's press, to the end of its event (R57, R105, R150). -/

namespace Sys2Proof.Machine

variable {s t u v w : State}

/-- What the key leaves of the panel and, with no fill under way, of the fill unit, whatever the retirements lead to. -/
theorem keyOff_formed_frame (s : State) {f : FillUnit} : let v := settle (keyRetired (takeLine .key false s))
    let t := conclude s (v.setFill f)
    ((v.fill.ctx = none → f = v.fill) → s.fill.ctx = none → t.fill = s.fill) ∧ t.panel.level.key = false
    ∧ t.panel.lastRefusal = s.panel.lastRefusal ∧ t.panel.refused = s.panel.refused := by
  intro v t
  have retired : Work (takeLine .key false s) (keyRetired (takeLine .key false s)) :=
    foldl_work (Work.refl _) _ _ (fun _ h _ => retire_work h _ _ _)
  have worked := settle_work retired
  have quiet : Quiet (takeLine .key false s) v :=
    settle_quiet (foldl_quiet (.refl _) _ _ (fun _ h _ => retire_quiet h _ _ _))
  have filled : Quiet (takeLine .key false s) (v.setFill f) := quiet.of_same rfl rfl
  have panel := (conclude_quiet filled s).panel
  obtain ⟨-, -, fill, -⟩ := conclude_reader s (v.setFill f)
  have sameFill : v.fill = s.fill := worked.fill
  refine ⟨fun still idle => ?_, ?_, ?_, ?_⟩
  · rw [sameFill] at still
    exact fill.trans (still idle)
  · rw [panel]; rfl
  · rw [panel]; rfl
  · rw [panel]; rfl

theorem passKeyOff_gathering (gathering : s.pass.phase = .gathering) : passKeyOff s = dropKeyed s := by
  unfold passKeyOff
  rw [gathering]

/-- With the members that go on all KEYED, every member is retiring. -/
theorem markKeyed_allRetiring (all : ∀ m ∈ s.pass.members, m.retiring = none → keyMarkOf s m.index = .keyed) :
    ∀ m ∈ markKeyed s, m.retiring.isSome = true := by
  intro x hx
  obtain ⟨m, hm, rfl⟩ := List.mem_map.mp hx
  by_cases goes : m.retiring = none
  · rw [if_pos ⟨goes, all m hm goes⟩]
    rfl
  · rw [if_neg (fun h => goes h.1)]
    exact Option.isSome_iff_ne_none.mpr goes

end Sys2Proof.Machine
end

section
open Sys2Proof Sys2Proof.Machine

/-- Settles O20: nothing but the fill's stop, the batch without its KEYED members, or their retirement. -/
theorem keyOffByPhase : Obligations.KeyOffByPhase := by
  unfold Obligations.KeyOffByPhase
  intro s running
  refine ⟨_, exec_keyOff running, fun idle => ?_, fun gathering other => ?_, ?_⟩
  · rw [passKeyOff_idle (s := takeLine .key false s) idle]
    obtain ⟨f, filled, still⟩ := fillKeyOff_eq_setFill (takeLine .key false s)
    have filling (x : FillCtx) (c : Compartment) (hctx : s.fill.ctx = some x)
        (hc : compartment? s x.compartment = some c) :=
      fillKeyOff_filling (s := takeLine .key false s) hctx hc
    rw [filled] at filling ⊢
    have k := conclude_same s ((takeLine .key false s).setFill f) rfl
    rw [k.panel]
    refine ⟨rfl, rfl, rfl, k.pass, k.job, k.diu, k.faults, k.sameModule (.refl s), k.sameShare rfl, k.sending rfl,
      fun none => k.fill.trans (still none), fun x c hctx hc => k.fill.trans ?_⟩
    exact congrArg State.fill (filling x c hctx hc)
  · rw [passKeyOff_gathering (s := takeLine .key false s) gathering]
    obtain ⟨j, p, dropped, phase, window, batch⟩ := dropKeyed_open (s := takeLine .key false s) gathering other
    obtain ⟨f, filled, -⟩ := fillKeyOff_eq_setFill (dropKeyed (takeLine .key false s))
    rw [filled, dropped]
    have k := conclude_phase s (({ takeLine .key false s with job := j, pass := p } : State).setFill f)
      (fun spray => nomatch phase.symm.trans spray) (fun starved => nomatch phase.symm.trans starved)
    rw [k.panel, k.pass]
    exact ⟨rfl, rfl, rfl, k.faults, k.diu, phase, window, batch⟩
  · intro keyed marked after goesOn isFormed notDrainDown unaborted notEnding members own
    rw [passKeyOff_formed (s := takeLine .key false s) isFormed notDrainDown unaborted]
    obtain ⟨f, filled, still⟩ := fillKeyOff_eq_setFill (settle (keyRetired (takeLine .key false s)))
    rw [filled]
    refine ⟨fun wet => ?_, fun unwetted phase goes other => ?_⟩
    · obtain ⟨fill, key, lastRefusal, refused⟩ := keyOff_formed_frame s (f := f)
      have h := keyRetired_marked members own wet
      refine ⟨fill still, key, lastRefusal, refused, ?_⟩
      clear fill key lastRefusal refused still filled
      generalize keyRetired (takeLine .key false s) = u at h
      have markedIs : u.pass.members = marked := h.members
      have unaborted' : u.pass.abortCode = none := h.abort.trans unaborted
      have isStage : u.pass.stage = s.pass.stage := by rw [h.pass]
      have goes' (goes : goesOn) : ∃ m ∈ u.pass.members, m.retiring = none := by
        obtain ⟨m, hm, goes, unkeyed⟩ := goes
        exact ⟨m, h.members ▸ mem_markKeyed_going hm unkeyed, goes⟩
      refine ⟨fun goes short enough unresumed => ?_, fun goes struck phase reached seated present => ?_,
        fun served goes starved short resumes moved seated dry => ?_, fun all nonempty => ?_⟩
      · rw [settle_goesOn (goes' goes) (by rw [h.phase, h.volumeReached]; exact short)]
        have k := h.stays f enough (fun starved => h.resumption.trans (unresumed starved))
        refine ⟨?_, k.diu.trans h.diu, k.job.trans h.job, k.faults.trans h.faults⟩
        rw [k.pass]
        exact h.pass
      · obtain ⟨m, hm, goes, isKeyed⟩ := struck
        have unpassed : ∃ m ∈ u.pass.members, m.passed = false := by
          rw [h.members]
          exact mem_markKeyed_keyed hm goes isKeyed
        have d := ((settle_drains unaborted' (by rw [h.phase]; exact phase) (goes' ‹goesOn›) (h.volumeReached.trans reached)
          (h.unseated seated) (h.namedAbsent.trans present) unpassed).setFill f).concluded s
        have members : (u.setFill f).pass.members = marked := markedIs
        have stage : (u.setFill f).pass.stage = s.pass.stage := isStage
        generalize conclude s ((settle u).setFill f) = t at d
        have list := d.list
        rw [members] at list
        exact ⟨d.phase, d.members.trans members, d.spray, d.stage.trans stage, list, d.draining, d.window,
          d.starveTimer, d.steady, d.raw, d.job.trans h.job, d.faults.trans h.faults⟩
      · rw [settle_goesOn (goes' goes) (by rw [h.volumeReached]; exact fun _ => short)]
        have moved' : nominalFlow u.pass ≠ nominalFlow s.pass := by
          rw [h.pass]
          exact moved
        obtain ⟨pass, raw, diu, job, faults⟩ := h.takenUp f served starved (by rw [← h.members]; exact goes' goes)
          (h.volumeReached.trans short) (h.resumption.trans resumes) moved' seated dry
        rw [pass, h.pass]
        exact ⟨rfl, rfl, rfl, rfl, rfl, raw, diu, job, faults⟩
      · have nonempty' : u.pass.members ≠ [] := by
          rw [markedIs]
          exact fun none => nonempty (List.map_eq_nil_iff.mp none)
        have all' : ∀ m ∈ u.pass.members, m.retiring.isSome = true := by
          rw [h.members]
          exact markKeyed_allRetiring all
        by_cases drains : s.pass.phase = .flush ∨ s.pass.phase = .spray ∨ s.pass.phase = .dry ∨ s.pass.phase = .held
            ∨ s.pass.phase = .starved
        · have d := ((settle_drainsRetiring unaborted' nonempty' all' (by rw [h.phase]; exact drains)).setFill f).concluded s
          have members : (u.setFill f).pass.members = marked := markedIs
          have stage : (u.setFill f).pass.stage = s.pass.stage := isStage
          have pending : (u.setFill f).pass.pendingHold = s.pass.pendingHold  := by
            show u.pass.pendingHold = _
            rw [h.pass]
          generalize conclude s ((settle u).setFill f) = t at d
          have list := d.list
          rw [members] at list
          refine ⟨d.members.trans members, d.stage.trans stage, d.job.trans h.job, d.faults.trans h.faults,
            fun _ => ⟨d.phase, list, d.draining, d.window, d.clock, d.steady, d.raw, d.holdTimer, d.starveTimer,
              d.pendingHold.trans pending⟩, fun runDown => ?_⟩
          rw [runDown] at drains
          obtain h | h | h | h | h := drains <;> cases h
        · have phase : s.pass.phase = .drain ∨ s.pass.phase = .runDown ∧ s.pass.dest ≠ some .drainDown := by
            cases phase : s.pass.phase with
            | none => exact absurd phase isFormed.1
            | gathering => exact absurd phase isFormed.2
            | drainDown => exact absurd phase notDrainDown
            | drain => exact .inl rfl
            | runDown => exact .inr ⟨rfl, notEnding phase⟩
            | flush | spray | dry | held | starved => simp [phase] at drains
          obtain ⟨members, stage, job, faults, turns⟩ := h.turned f unaborted nonempty' all' phase
          exact ⟨members, stage, job, faults, fun h => absurd h drains, turns⟩
    · have notDry : s.pass.phase ≠ .dry := by
        obtain h | h | h := phase <;> rw [h] <;> exact nofun
      have notSpray : s.pass.phase ≠ .spray ∧ s.pass.phase ≠ .starved := by
        obtain h | h | h := phase <;> rw [h] <;> exact ⟨nofun, nofun⟩
      have h := keyRetired_gone members notDry own unwetted other
      clear filled still
      generalize keyRetired (takeLine .key false s) = u at h
      have stays : settle u = u := by
        refine settle_goesOn (h.goes members goes) (fun phase => absurd phase ?_)
        rw [h.phase]
        exact fun phase => phase.elim notSpray.1 notSpray.2
      rw [stays]
      have k := conclude_phase s (u.setFill f) (fun spray => notSpray.1 (h.phase.symm.trans spray))
        (fun starved => notSpray.2 (h.phase.symm.trans starved))
      rw [k.pass]
      refine ⟨h.phase, h.members.trans ?_, h.drainList.trans ?_, k.job.trans (h.job.trans ?_), k.faults.trans h.faults⟩
      · refine List.filter_congr (fun m hm => ?_)
        rw [Bool.eq_iff_iff, Bool.not_eq_true', ← Bool.not_eq_true, listed_goneKeyed members hm, decide_eq_true_iff]
      · refine List.filter_congr (fun i _ => ?_)
        rw [Bool.eq_iff_iff, unlisted_goneKeyed, decide_eq_true_iff]
      · exact congrArg (fun table : List Compartment => ({ s.job with table := table } : JobUnit))
          (outcomeTable_goneKeyed members s.job.table)

end
